-- ==== Sys2Proof/Word.lean ====
section
/-! DEFINITION. The words a transaction is made of (spec 30_encoding.md R53, 00_scope.md R8). -/

namespace Sys2Proof

/-- A 40-bit transaction word `TW[39:0] = {W, ADDR[6:0], DATA[31:0]}` (R53). -/
abbrev TxnWord := BitVec 40

/-- `ADDR[6:0]`, a word address in the host register space (R40, R53). -/
abbrev Addr := BitVec 7

/-- `DATA[31:0]` of a request and `RDATA[31:0]` of a response (R42, R53, R54). -/
abbrev Data := BitVec 32

end Sys2Proof
end

