-- ==== Sys2Proof/Config.lean ====
section
/-! DEFINITION. What the spec leaves open. The parameters `LAT`, `RST_KIND` and `BUS` of R7 are unobservable and have no
constant here (R154, R147). The free values below stand where a result does not fit its register; R107 says of the sums
that this "never happens and has no defined behaviour to model", and no state reached from reset meets one
(notes/assumptions/5.md). Nothing is known of them, so a theorem holds whatever they are. -/

namespace Sys2Proof.Config

/-- DESIGN CHOICE (log 5): what `ACCP` takes when `ACCP + P` does not fit 32 unsigned bits (R106, R107). -/
opaque accpBeyond (accp : BitVec 32) (p : BitVec 16) : BitVec 32

/-- DESIGN CHOICE (log 5): what `ACCT` takes when `ACCT + T` does not fit 32 signed bits (R106, R107). -/
opaque acctBeyond (acct : BitVec 32) (t : BitVec 16) : BitVec 32

/-- DESIGN CHOICE (log 5): what `PAVG` takes when `ACCP div ACCN` does not fit 16 unsigned bits (R108, R33). -/
opaque pavgBeyond (accp : BitVec 32) (accn : BitVec 16) : BitVec 16

/-- DESIGN CHOICE (log 5): what `TAVG` takes when `tdiv(ACCT, ACCN)` does not fit 16 signed bits (R108, R34). -/
opaque tavgBeyond (acct : BitVec 32) (accn : BitVec 16) : BitVec 16

end Sys2Proof.Config
end

