-- ==== Sys2Proof/Syntax.lean ====
section
/-! DEFINITION. The instructions: one constructor per row of spec/opcode_table.json (R64), and the names of the
implemented addresses (R41, R62). A row of one register carries the 32-bit `DATA` whole, used or ignored (R56); a row of
several addresses carries `ADDR` whole; a row of several reserved opcodes carries the opcode whole. Which `ADDR` and which
opcodes belong to a row is WellFormed.lean's (notes/assumptions/7.md). -/

namespace Sys2Proof

/-- The implemented addresses 0x00 to 0x19 by name: `CMD`, `STATUS` and the 24 registers (R13, R41, R62). -/
inductive RegName where
  | cmd | status | w1 | w2 | w3 | w4 | d1 | d2 | c1 | c2 | c3 | c4 | c5 | c6
  | ut1 | dt | off | sens | dt2 | p | t | accp | acct | accn | pavg | tavg
deriving DecidableEq, Repr

/-- The six input registers, the only ones a host can write (R39, R68). -/
inductive InputReg where
  | w1 | w2 | w3 | w4 | d1 | d2
deriving DecidableEq, Repr

/-- One host transaction, by the row of spec/opcode_table.json it belongs to (R55, R59, R64). -/
inductive Instr where
  /-- command `NOP`, a write of its opcode to `CMD` (R104) -/
  | nop
  /-- command `CAL`, a write of its opcode to `CMD` (R74) -/
  | cal
  /-- command `COMP`, a write of its opcode to `CMD` (R83) -/
  | comp
  /-- command `ACLR`, a write of its opcode to `CMD` (R105) -/
  | aclr
  /-- command `ACC`, a write of its opcode to `CMD` (R106) -/
  | acc
  /-- command `AVG`, a write of its opcode to `CMD` (R108) -/
  | avg
  /-- `WR.W1`: write `DATA[15:0]` to the register (R68) -/
  | wrW1 (data : Data)
  /-- `WR.W2`: write `DATA[15:0]` to the register (R68) -/
  | wrW2 (data : Data)
  /-- `WR.W3`: write `DATA[15:0]` to the register (R68) -/
  | wrW3 (data : Data)
  /-- `WR.W4`: write `DATA[15:0]` to the register (R68) -/
  | wrW4 (data : Data)
  /-- `WR.D1`: write `DATA[15:0]` to the register (R68) -/
  | wrD1 (data : Data)
  /-- `WR.D2`: write `DATA[15:0]` to the register (R68) -/
  | wrD2 (data : Data)
  /-- `RD.CMD`: read the address; `DATA` is ignored (R71) -/
  | rdCmd (data : Data)
  /-- `RD.STATUS`: read the address; `DATA` is ignored (R71) -/
  | rdStatus (data : Data)
  /-- `RD.W1`: read the address; `DATA` is ignored (R71) -/
  | rdW1 (data : Data)
  /-- `RD.W2`: read the address; `DATA` is ignored (R71) -/
  | rdW2 (data : Data)
  /-- `RD.W3`: read the address; `DATA` is ignored (R71) -/
  | rdW3 (data : Data)
  /-- `RD.W4`: read the address; `DATA` is ignored (R71) -/
  | rdW4 (data : Data)
  /-- `RD.D1`: read the address; `DATA` is ignored (R71) -/
  | rdD1 (data : Data)
  /-- `RD.D2`: read the address; `DATA` is ignored (R71) -/
  | rdD2 (data : Data)
  /-- `RD.C1`: read the address; `DATA` is ignored (R71) -/
  | rdC1 (data : Data)
  /-- `RD.C2`: read the address; `DATA` is ignored (R71) -/
  | rdC2 (data : Data)
  /-- `RD.C3`: read the address; `DATA` is ignored (R71) -/
  | rdC3 (data : Data)
  /-- `RD.C4`: read the address; `DATA` is ignored (R71) -/
  | rdC4 (data : Data)
  /-- `RD.C5`: read the address; `DATA` is ignored (R71) -/
  | rdC5 (data : Data)
  /-- `RD.C6`: read the address; `DATA` is ignored (R71) -/
  | rdC6 (data : Data)
  /-- `RD.UT1`: read the address; `DATA` is ignored (R71) -/
  | rdUt1 (data : Data)
  /-- `RD.DT`: read the address; `DATA` is ignored (R71) -/
  | rdDt (data : Data)
  /-- `RD.OFF`: read the address; `DATA` is ignored (R71) -/
  | rdOff (data : Data)
  /-- `RD.SENS`: read the address; `DATA` is ignored (R71) -/
  | rdSens (data : Data)
  /-- `RD.DT2`: read the address; `DATA` is ignored (R71) -/
  | rdDt2 (data : Data)
  /-- `RD.P`: read the address; `DATA` is ignored (R71) -/
  | rdP (data : Data)
  /-- `RD.T`: read the address; `DATA` is ignored (R71) -/
  | rdT (data : Data)
  /-- `RD.ACCP`: read the address; `DATA` is ignored (R71) -/
  | rdAccp (data : Data)
  /-- `RD.ACCT`: read the address; `DATA` is ignored (R71) -/
  | rdAcct (data : Data)
  /-- `RD.ACCN`: read the address; `DATA` is ignored (R71) -/
  | rdAccn (data : Data)
  /-- `RD.PAVG`: read the address; `DATA` is ignored (R71) -/
  | rdPavg (data : Data)
  /-- `RD.TAVG`: read the address; `DATA` is ignored (R71) -/
  | rdTavg (data : Data)
  /-- `WR.RO.01`: write to a read-only address 0x01 to 0x01, refused (R70) -/
  | wrRo01 (addr : Addr) (data : Data)
  /-- `WR.RO.08_0F`: write to a read-only address 0x08 to 0x0f, refused (R70) -/
  | wrRo08To0F (addr : Addr) (data : Data)
  /-- `WR.RO.10_17`: write to a read-only address 0x10 to 0x17, refused (R70) -/
  | wrRo10To17 (addr : Addr) (data : Data)
  /-- `WR.RO.18_19`: write to a read-only address 0x18 to 0x19, refused (R70) -/
  | wrRo18To19 (addr : Addr) (data : Data)
  /-- `WR.RSVD.1A_1B`: write to a reserved address 0x1a to 0x1b, refused (R70) -/
  | wrRsvd1ATo1B (addr : Addr) (data : Data)
  /-- `WR.RSVD.1C_1F`: write to a reserved address 0x1c to 0x1f, refused (R70) -/
  | wrRsvd1CTo1F (addr : Addr) (data : Data)
  /-- `WR.RSVD.20_3F`: write to a reserved address 0x20 to 0x3f, refused (R70) -/
  | wrRsvd20To3F (addr : Addr) (data : Data)
  /-- `WR.RSVD.40_7F`: write to a reserved address 0x40 to 0x7f, refused (R70) -/
  | wrRsvd40To7F (addr : Addr) (data : Data)
  /-- `RD.RSVD.1A_1B`: read of a reserved address 0x1a to 0x1b, refused (R72) -/
  | rdRsvd1ATo1B (addr : Addr) (data : Data)
  /-- `RD.RSVD.1C_1F`: read of a reserved address 0x1c to 0x1f, refused (R72) -/
  | rdRsvd1CTo1F (addr : Addr) (data : Data)
  /-- `RD.RSVD.20_3F`: read of a reserved address 0x20 to 0x3f, refused (R72) -/
  | rdRsvd20To3F (addr : Addr) (data : Data)
  /-- `RD.RSVD.40_7F`: read of a reserved address 0x40 to 0x7f, refused (R72) -/
  | rdRsvd40To7F (addr : Addr) (data : Data)
  /-- `CMD.RSVD.6_7`: a reserved opcode written to `CMD`, refused (R69) -/
  | cmdRsvd6To7 (op : Data)
  /-- `CMD.RSVD.B3`: a reserved opcode written to `CMD`, refused (R69) -/
  | cmdRsvdB3 (op : Data)
  /-- `CMD.RSVD.B4`: a reserved opcode written to `CMD`, refused (R69) -/
  | cmdRsvdB4 (op : Data)
  /-- `CMD.RSVD.B5`: a reserved opcode written to `CMD`, refused (R69) -/
  | cmdRsvdB5 (op : Data)
  /-- `CMD.RSVD.B6`: a reserved opcode written to `CMD`, refused (R69) -/
  | cmdRsvdB6 (op : Data)
  /-- `CMD.RSVD.B7`: a reserved opcode written to `CMD`, refused (R69) -/
  | cmdRsvdB7 (op : Data)
  /-- `CMD.RSVD.B8`: a reserved opcode written to `CMD`, refused (R69) -/
  | cmdRsvdB8 (op : Data)
  /-- `CMD.RSVD.B9`: a reserved opcode written to `CMD`, refused (R69) -/
  | cmdRsvdB9 (op : Data)
  /-- `CMD.RSVD.B10`: a reserved opcode written to `CMD`, refused (R69) -/
  | cmdRsvdB10 (op : Data)
  /-- `CMD.RSVD.B11`: a reserved opcode written to `CMD`, refused (R69) -/
  | cmdRsvdB11 (op : Data)
  /-- `CMD.RSVD.B12`: a reserved opcode written to `CMD`, refused (R69) -/
  | cmdRsvdB12 (op : Data)
  /-- `CMD.RSVD.B13`: a reserved opcode written to `CMD`, refused (R69) -/
  | cmdRsvdB13 (op : Data)
  /-- `CMD.RSVD.B14`: a reserved opcode written to `CMD`, refused (R69) -/
  | cmdRsvdB14 (op : Data)
  /-- `CMD.RSVD.B15`: a reserved opcode written to `CMD`, refused (R69) -/
  | cmdRsvdB15 (op : Data)
  /-- `CMD.RSVD.B16`: a reserved opcode written to `CMD`, refused (R69) -/
  | cmdRsvdB16 (op : Data)
  /-- `CMD.RSVD.B17`: a reserved opcode written to `CMD`, refused (R69) -/
  | cmdRsvdB17 (op : Data)
  /-- `CMD.RSVD.B18`: a reserved opcode written to `CMD`, refused (R69) -/
  | cmdRsvdB18 (op : Data)
  /-- `CMD.RSVD.B19`: a reserved opcode written to `CMD`, refused (R69) -/
  | cmdRsvdB19 (op : Data)
  /-- `CMD.RSVD.B20`: a reserved opcode written to `CMD`, refused (R69) -/
  | cmdRsvdB20 (op : Data)
  /-- `CMD.RSVD.B21`: a reserved opcode written to `CMD`, refused (R69) -/
  | cmdRsvdB21 (op : Data)
  /-- `CMD.RSVD.B22`: a reserved opcode written to `CMD`, refused (R69) -/
  | cmdRsvdB22 (op : Data)
  /-- `CMD.RSVD.B23`: a reserved opcode written to `CMD`, refused (R69) -/
  | cmdRsvdB23 (op : Data)
  /-- `CMD.RSVD.B24`: a reserved opcode written to `CMD`, refused (R69) -/
  | cmdRsvdB24 (op : Data)
  /-- `CMD.RSVD.B25`: a reserved opcode written to `CMD`, refused (R69) -/
  | cmdRsvdB25 (op : Data)
  /-- `CMD.RSVD.B26`: a reserved opcode written to `CMD`, refused (R69) -/
  | cmdRsvdB26 (op : Data)
  /-- `CMD.RSVD.B27`: a reserved opcode written to `CMD`, refused (R69) -/
  | cmdRsvdB27 (op : Data)
  /-- `CMD.RSVD.B28`: a reserved opcode written to `CMD`, refused (R69) -/
  | cmdRsvdB28 (op : Data)
  /-- `CMD.RSVD.B29`: a reserved opcode written to `CMD`, refused (R69) -/
  | cmdRsvdB29 (op : Data)
  /-- `CMD.RSVD.B30`: a reserved opcode written to `CMD`, refused (R69) -/
  | cmdRsvdB30 (op : Data)
  /-- `CMD.RSVD.B31`: a reserved opcode written to `CMD`, refused (R69) -/
  | cmdRsvdB31 (op : Data)
deriving DecidableEq, Repr

end Sys2Proof
end

