-- ==== Sys2Proof/WellFormed.lean ====
section
/-! DEFINITION. Which operands belong to which row of spec/opcode_table.json (R64): an address row holds the `ADDR` values
of its block, a reserved-opcode row `CMD.RSVD.B<k>` the opcodes "whose highest set bit is bit `k`". Every other row takes
every operand. -/

namespace Sys2Proof

/-- `lo <= ADDR <= hi`. -/
def addrIn (lo hi : Nat) (addr : Addr) : Bool := decide (lo ≤ addr.toNat ∧ addr.toNat ≤ hi)

/-- The opcode's highest set bit is bit `k` (R64). -/
def highestBitIs (k : Nat) (op : Data) : Bool := decide (2 ^ k ≤ op.toNat ∧ op.toNat < 2 ^ (k + 1))

/-- The operands lie in the row the constructor stands for (R64). -/
def Instr.wellFormed : Instr → Bool
  | .nop => true
  | .cal => true
  | .comp => true
  | .aclr => true
  | .acc => true
  | .avg => true
  | .wrW1 _ => true
  | .wrW2 _ => true
  | .wrW3 _ => true
  | .wrW4 _ => true
  | .wrD1 _ => true
  | .wrD2 _ => true
  | .rdCmd _ => true
  | .rdStatus _ => true
  | .rdW1 _ => true
  | .rdW2 _ => true
  | .rdW3 _ => true
  | .rdW4 _ => true
  | .rdD1 _ => true
  | .rdD2 _ => true
  | .rdC1 _ => true
  | .rdC2 _ => true
  | .rdC3 _ => true
  | .rdC4 _ => true
  | .rdC5 _ => true
  | .rdC6 _ => true
  | .rdUt1 _ => true
  | .rdDt _ => true
  | .rdOff _ => true
  | .rdSens _ => true
  | .rdDt2 _ => true
  | .rdP _ => true
  | .rdT _ => true
  | .rdAccp _ => true
  | .rdAcct _ => true
  | .rdAccn _ => true
  | .rdPavg _ => true
  | .rdTavg _ => true
  | .wrRo01 addr _ => addrIn 0x01 0x01 addr
  | .wrRo08To0F addr _ => addrIn 0x08 0x0F addr
  | .wrRo10To17 addr _ => addrIn 0x10 0x17 addr
  | .wrRo18To19 addr _ => addrIn 0x18 0x19 addr
  | .wrRsvd1ATo1B addr _ => addrIn 0x1A 0x1B addr
  | .wrRsvd1CTo1F addr _ => addrIn 0x1C 0x1F addr
  | .wrRsvd20To3F addr _ => addrIn 0x20 0x3F addr
  | .wrRsvd40To7F addr _ => addrIn 0x40 0x7F addr
  | .rdRsvd1ATo1B addr _ => addrIn 0x1A 0x1B addr
  | .rdRsvd1CTo1F addr _ => addrIn 0x1C 0x1F addr
  | .rdRsvd20To3F addr _ => addrIn 0x20 0x3F addr
  | .rdRsvd40To7F addr _ => addrIn 0x40 0x7F addr
  | .cmdRsvd6To7 op => decide (6 ≤ op.toNat ∧ op.toNat ≤ 7)
  | .cmdRsvdB3 op => highestBitIs 3 op
  | .cmdRsvdB4 op => highestBitIs 4 op
  | .cmdRsvdB5 op => highestBitIs 5 op
  | .cmdRsvdB6 op => highestBitIs 6 op
  | .cmdRsvdB7 op => highestBitIs 7 op
  | .cmdRsvdB8 op => highestBitIs 8 op
  | .cmdRsvdB9 op => highestBitIs 9 op
  | .cmdRsvdB10 op => highestBitIs 10 op
  | .cmdRsvdB11 op => highestBitIs 11 op
  | .cmdRsvdB12 op => highestBitIs 12 op
  | .cmdRsvdB13 op => highestBitIs 13 op
  | .cmdRsvdB14 op => highestBitIs 14 op
  | .cmdRsvdB15 op => highestBitIs 15 op
  | .cmdRsvdB16 op => highestBitIs 16 op
  | .cmdRsvdB17 op => highestBitIs 17 op
  | .cmdRsvdB18 op => highestBitIs 18 op
  | .cmdRsvdB19 op => highestBitIs 19 op
  | .cmdRsvdB20 op => highestBitIs 20 op
  | .cmdRsvdB21 op => highestBitIs 21 op
  | .cmdRsvdB22 op => highestBitIs 22 op
  | .cmdRsvdB23 op => highestBitIs 23 op
  | .cmdRsvdB24 op => highestBitIs 24 op
  | .cmdRsvdB25 op => highestBitIs 25 op
  | .cmdRsvdB26 op => highestBitIs 26 op
  | .cmdRsvdB27 op => highestBitIs 27 op
  | .cmdRsvdB28 op => highestBitIs 28 op
  | .cmdRsvdB29 op => highestBitIs 29 op
  | .cmdRsvdB30 op => highestBitIs 30 op
  | .cmdRsvdB31 op => highestBitIs 31 op

end Sys2Proof
end

