-- ==== Sys2Proof/Decode.lean ====
section
/-! DEFINITION. Encoding: the fields of a transaction word (R53), the address map (R41), the decoder (R55, R59; total, R57),
the encoder written from the same tables, the rows of spec/opcode_table.json (R64), and the word form the host's table uses. -/

namespace Sys2Proof

/-- `TW = {W, ADDR[6:0], DATA[31:0]}` (R53). -/
def txnWord (w : Bool) (addr : Addr) (data : Data) : TxnWord := (BitVec.ofBool w ++ addr) ++ data

/-- `W = TW[39]`: 1 is a write, 0 a read (R53). -/
def txnW (tw : TxnWord) : Bool := tw.getLsbD 39

/-- `ADDR = TW[38:32]` (R53). -/
def txnAddr (tw : TxnWord) : Addr := tw.extractLsb' 32 7

/-- `DATA = TW[31:0]` (R53). -/
def txnData (tw : TxnWord) : Data := tw.extractLsb' 0 32

/-- The address map (R13, R41). -/
def RegName.addr : RegName → Addr
  | .cmd => 0x00
  | .status => 0x01
  | .w1 => 0x02
  | .w2 => 0x03
  | .w3 => 0x04
  | .w4 => 0x05
  | .d1 => 0x06
  | .d2 => 0x07
  | .c1 => 0x08
  | .c2 => 0x09
  | .c3 => 0x0A
  | .c4 => 0x0B
  | .c5 => 0x0C
  | .c6 => 0x0D
  | .ut1 => 0x0E
  | .dt => 0x0F
  | .off => 0x10
  | .sens => 0x11
  | .dt2 => 0x12
  | .p => 0x13
  | .t => 0x14
  | .accp => 0x15
  | .acct => 0x16
  | .accn => 0x17
  | .pavg => 0x18
  | .tavg => 0x19

/-- The implemented addresses in address order (R41). -/
def RegName.all : List RegName :=
  [.cmd, .status, .w1, .w2, .w3, .w4, .d1, .d2, .c1, .c2, .c3, .c4, .c5, .c6,
   .ut1, .dt, .off, .sens, .dt2, .p, .t, .accp, .acct, .accn, .pavg, .tavg]

/-- The name at an implemented address; `none` at a reserved one (0x1A to 0x7F, R41). -/
def RegName.ofAddr (addr : Addr) : Option RegName := RegName.all.find? (fun r => decide (r.addr = addr))

/-- The register an input register is (R39). -/
def InputReg.name : InputReg → RegName
  | .w1 => .w1 | .w2 => .w2 | .w3 => .w3 | .w4 => .w4 | .d1 => .d1 | .d2 => .d2

/-- The input register at an address, 0x02 to 0x07 (R55, R68). -/
def InputReg.ofAddr (addr : Addr) : Option InputReg :=
  [InputReg.w1, .w2, .w3, .w4, .d1, .d2].find? (fun r => decide (r.name.addr = addr))

/-- A command by its opcode; all 32 bits count (R56, R59). A reserved opcode goes to the row of its highest set bit (R64). -/
def decodeCommand (op : Data) : Instr :=
  match op.toNat with
  | 0 => .nop
  | 1 => .cal
  | 2 => .comp
  | 3 => .aclr
  | 4 => .acc
  | 5 => .avg
  | n =>
    match Nat.log2 n with
    | 2 => .cmdRsvd6To7 op
    | 3 => .cmdRsvdB3 op
    | 4 => .cmdRsvdB4 op
    | 5 => .cmdRsvdB5 op
    | 6 => .cmdRsvdB6 op
    | 7 => .cmdRsvdB7 op
    | 8 => .cmdRsvdB8 op
    | 9 => .cmdRsvdB9 op
    | 10 => .cmdRsvdB10 op
    | 11 => .cmdRsvdB11 op
    | 12 => .cmdRsvdB12 op
    | 13 => .cmdRsvdB13 op
    | 14 => .cmdRsvdB14 op
    | 15 => .cmdRsvdB15 op
    | 16 => .cmdRsvdB16 op
    | 17 => .cmdRsvdB17 op
    | 18 => .cmdRsvdB18 op
    | 19 => .cmdRsvdB19 op
    | 20 => .cmdRsvdB20 op
    | 21 => .cmdRsvdB21 op
    | 22 => .cmdRsvdB22 op
    | 23 => .cmdRsvdB23 op
    | 24 => .cmdRsvdB24 op
    | 25 => .cmdRsvdB25 op
    | 26 => .cmdRsvdB26 op
    | 27 => .cmdRsvdB27 op
    | 28 => .cmdRsvdB28 op
    | 29 => .cmdRsvdB29 op
    | 30 => .cmdRsvdB30 op
    | _ => .cmdRsvdB31 op

/-- A write by its address (R55). -/
def decodeWrite (addr : Addr) (data : Data) : Instr :=
  match addr.toNat with
  | 0x00 => decodeCommand data
  | 0x01 => .wrRo01 addr data
  | 0x02 => .wrW1 data
  | 0x03 => .wrW2 data
  | 0x04 => .wrW3 data
  | 0x05 => .wrW4 data
  | 0x06 => .wrD1 data
  | 0x07 => .wrD2 data
  | n =>
    if n ≤ 0x0F then .wrRo08To0F addr data
    else if n ≤ 0x17 then .wrRo10To17 addr data
    else if n ≤ 0x19 then .wrRo18To19 addr data
    else if n ≤ 0x1B then .wrRsvd1ATo1B addr data
    else if n ≤ 0x1F then .wrRsvd1CTo1F addr data
    else if n ≤ 0x3F then .wrRsvd20To3F addr data
    else .wrRsvd40To7F addr data

/-- A read by its address (R55). -/
def decodeRead (addr : Addr) (data : Data) : Instr :=
  match addr.toNat with
  | 0x00 => .rdCmd data
  | 0x01 => .rdStatus data
  | 0x02 => .rdW1 data
  | 0x03 => .rdW2 data
  | 0x04 => .rdW3 data
  | 0x05 => .rdW4 data
  | 0x06 => .rdD1 data
  | 0x07 => .rdD2 data
  | 0x08 => .rdC1 data
  | 0x09 => .rdC2 data
  | 0x0A => .rdC3 data
  | 0x0B => .rdC4 data
  | 0x0C => .rdC5 data
  | 0x0D => .rdC6 data
  | 0x0E => .rdUt1 data
  | 0x0F => .rdDt data
  | 0x10 => .rdOff data
  | 0x11 => .rdSens data
  | 0x12 => .rdDt2 data
  | 0x13 => .rdP data
  | 0x14 => .rdT data
  | 0x15 => .rdAccp data
  | 0x16 => .rdAcct data
  | 0x17 => .rdAccn data
  | 0x18 => .rdPavg data
  | 0x19 => .rdTavg data
  | n =>
    if n ≤ 0x1B then .rdRsvd1ATo1B addr data
    else if n ≤ 0x1F then .rdRsvd1CTo1F addr data
    else if n ≤ 0x3F then .rdRsvd20To3F addr data
    else .rdRsvd40To7F addr data

/-- The decode of R55 and R59. It is total: every 40-bit word is exactly one instruction (R57), so nothing is rejected
here; what the block refuses is an instruction of its own row, refused with a status. -/
def decode (tw : TxnWord) : Instr :=
  if txnW tw then decodeWrite (txnAddr tw) (txnData tw) else decodeRead (txnAddr tw) (txnData tw)

/-- The transaction word of an instruction (R53, R59, R62). -/
def encode : Instr → TxnWord
  | .nop => 0x8000000000
  | .cal => 0x8000000001
  | .comp => 0x8000000002
  | .aclr => 0x8000000003
  | .acc => 0x8000000004
  | .avg => 0x8000000005
  | .wrW1 data => txnWord true 0x02 data
  | .wrW2 data => txnWord true 0x03 data
  | .wrW3 data => txnWord true 0x04 data
  | .wrW4 data => txnWord true 0x05 data
  | .wrD1 data => txnWord true 0x06 data
  | .wrD2 data => txnWord true 0x07 data
  | .rdCmd data => txnWord false 0x00 data
  | .rdStatus data => txnWord false 0x01 data
  | .rdW1 data => txnWord false 0x02 data
  | .rdW2 data => txnWord false 0x03 data
  | .rdW3 data => txnWord false 0x04 data
  | .rdW4 data => txnWord false 0x05 data
  | .rdD1 data => txnWord false 0x06 data
  | .rdD2 data => txnWord false 0x07 data
  | .rdC1 data => txnWord false 0x08 data
  | .rdC2 data => txnWord false 0x09 data
  | .rdC3 data => txnWord false 0x0A data
  | .rdC4 data => txnWord false 0x0B data
  | .rdC5 data => txnWord false 0x0C data
  | .rdC6 data => txnWord false 0x0D data
  | .rdUt1 data => txnWord false 0x0E data
  | .rdDt data => txnWord false 0x0F data
  | .rdOff data => txnWord false 0x10 data
  | .rdSens data => txnWord false 0x11 data
  | .rdDt2 data => txnWord false 0x12 data
  | .rdP data => txnWord false 0x13 data
  | .rdT data => txnWord false 0x14 data
  | .rdAccp data => txnWord false 0x15 data
  | .rdAcct data => txnWord false 0x16 data
  | .rdAccn data => txnWord false 0x17 data
  | .rdPavg data => txnWord false 0x18 data
  | .rdTavg data => txnWord false 0x19 data
  | .wrRo01 addr data => txnWord true addr data
  | .wrRo08To0F addr data => txnWord true addr data
  | .wrRo10To17 addr data => txnWord true addr data
  | .wrRo18To19 addr data => txnWord true addr data
  | .wrRsvd1ATo1B addr data => txnWord true addr data
  | .wrRsvd1CTo1F addr data => txnWord true addr data
  | .wrRsvd20To3F addr data => txnWord true addr data
  | .wrRsvd40To7F addr data => txnWord true addr data
  | .rdRsvd1ATo1B addr data => txnWord false addr data
  | .rdRsvd1CTo1F addr data => txnWord false addr data
  | .rdRsvd20To3F addr data => txnWord false addr data
  | .rdRsvd40To7F addr data => txnWord false addr data
  | .cmdRsvd6To7 op => txnWord true 0x00 op
  | .cmdRsvdB3 op => txnWord true 0x00 op
  | .cmdRsvdB4 op => txnWord true 0x00 op
  | .cmdRsvdB5 op => txnWord true 0x00 op
  | .cmdRsvdB6 op => txnWord true 0x00 op
  | .cmdRsvdB7 op => txnWord true 0x00 op
  | .cmdRsvdB8 op => txnWord true 0x00 op
  | .cmdRsvdB9 op => txnWord true 0x00 op
  | .cmdRsvdB10 op => txnWord true 0x00 op
  | .cmdRsvdB11 op => txnWord true 0x00 op
  | .cmdRsvdB12 op => txnWord true 0x00 op
  | .cmdRsvdB13 op => txnWord true 0x00 op
  | .cmdRsvdB14 op => txnWord true 0x00 op
  | .cmdRsvdB15 op => txnWord true 0x00 op
  | .cmdRsvdB16 op => txnWord true 0x00 op
  | .cmdRsvdB17 op => txnWord true 0x00 op
  | .cmdRsvdB18 op => txnWord true 0x00 op
  | .cmdRsvdB19 op => txnWord true 0x00 op
  | .cmdRsvdB20 op => txnWord true 0x00 op
  | .cmdRsvdB21 op => txnWord true 0x00 op
  | .cmdRsvdB22 op => txnWord true 0x00 op
  | .cmdRsvdB23 op => txnWord true 0x00 op
  | .cmdRsvdB24 op => txnWord true 0x00 op
  | .cmdRsvdB25 op => txnWord true 0x00 op
  | .cmdRsvdB26 op => txnWord true 0x00 op
  | .cmdRsvdB27 op => txnWord true 0x00 op
  | .cmdRsvdB28 op => txnWord true 0x00 op
  | .cmdRsvdB29 op => txnWord true 0x00 op
  | .cmdRsvdB30 op => txnWord true 0x00 op
  | .cmdRsvdB31 op => txnWord true 0x00 op

/-- `match` and `mask` of a row of spec/opcode_table.json: a word belongs to the row when `TW & mask = match` (R64). -/
structure OpcodeRow where
  bits : TxnWord
  mask : TxnWord
deriving DecidableEq, Repr

/-- The word belongs to the row (R64). -/
def inRow (row : OpcodeRow) (tw : TxnWord) : Bool := decide (tw &&& row.mask = row.bits)

/-- The row of spec/opcode_table.json an instruction stands for (R64). -/
def opcodeRow : Instr → OpcodeRow
  | .nop => ⟨0x8000000000, 0xFFFFFFFFFF⟩
  | .cal => ⟨0x8000000001, 0xFFFFFFFFFF⟩
  | .comp => ⟨0x8000000002, 0xFFFFFFFFFF⟩
  | .aclr => ⟨0x8000000003, 0xFFFFFFFFFF⟩
  | .acc => ⟨0x8000000004, 0xFFFFFFFFFF⟩
  | .avg => ⟨0x8000000005, 0xFFFFFFFFFF⟩
  | .wrW1 _ => ⟨0x8200000000, 0xFF00000000⟩
  | .wrW2 _ => ⟨0x8300000000, 0xFF00000000⟩
  | .wrW3 _ => ⟨0x8400000000, 0xFF00000000⟩
  | .wrW4 _ => ⟨0x8500000000, 0xFF00000000⟩
  | .wrD1 _ => ⟨0x8600000000, 0xFF00000000⟩
  | .wrD2 _ => ⟨0x8700000000, 0xFF00000000⟩
  | .rdCmd _ => ⟨0x0000000000, 0xFF00000000⟩
  | .rdStatus _ => ⟨0x0100000000, 0xFF00000000⟩
  | .rdW1 _ => ⟨0x0200000000, 0xFF00000000⟩
  | .rdW2 _ => ⟨0x0300000000, 0xFF00000000⟩
  | .rdW3 _ => ⟨0x0400000000, 0xFF00000000⟩
  | .rdW4 _ => ⟨0x0500000000, 0xFF00000000⟩
  | .rdD1 _ => ⟨0x0600000000, 0xFF00000000⟩
  | .rdD2 _ => ⟨0x0700000000, 0xFF00000000⟩
  | .rdC1 _ => ⟨0x0800000000, 0xFF00000000⟩
  | .rdC2 _ => ⟨0x0900000000, 0xFF00000000⟩
  | .rdC3 _ => ⟨0x0A00000000, 0xFF00000000⟩
  | .rdC4 _ => ⟨0x0B00000000, 0xFF00000000⟩
  | .rdC5 _ => ⟨0x0C00000000, 0xFF00000000⟩
  | .rdC6 _ => ⟨0x0D00000000, 0xFF00000000⟩
  | .rdUt1 _ => ⟨0x0E00000000, 0xFF00000000⟩
  | .rdDt _ => ⟨0x0F00000000, 0xFF00000000⟩
  | .rdOff _ => ⟨0x1000000000, 0xFF00000000⟩
  | .rdSens _ => ⟨0x1100000000, 0xFF00000000⟩
  | .rdDt2 _ => ⟨0x1200000000, 0xFF00000000⟩
  | .rdP _ => ⟨0x1300000000, 0xFF00000000⟩
  | .rdT _ => ⟨0x1400000000, 0xFF00000000⟩
  | .rdAccp _ => ⟨0x1500000000, 0xFF00000000⟩
  | .rdAcct _ => ⟨0x1600000000, 0xFF00000000⟩
  | .rdAccn _ => ⟨0x1700000000, 0xFF00000000⟩
  | .rdPavg _ => ⟨0x1800000000, 0xFF00000000⟩
  | .rdTavg _ => ⟨0x1900000000, 0xFF00000000⟩
  | .wrRo01 _ _ => ⟨0x8100000000, 0xFF00000000⟩
  | .wrRo08To0F _ _ => ⟨0x8800000000, 0xF800000000⟩
  | .wrRo10To17 _ _ => ⟨0x9000000000, 0xF800000000⟩
  | .wrRo18To19 _ _ => ⟨0x9800000000, 0xFE00000000⟩
  | .wrRsvd1ATo1B _ _ => ⟨0x9A00000000, 0xFE00000000⟩
  | .wrRsvd1CTo1F _ _ => ⟨0x9C00000000, 0xFC00000000⟩
  | .wrRsvd20To3F _ _ => ⟨0xA000000000, 0xE000000000⟩
  | .wrRsvd40To7F _ _ => ⟨0xC000000000, 0xC000000000⟩
  | .rdRsvd1ATo1B _ _ => ⟨0x1A00000000, 0xFE00000000⟩
  | .rdRsvd1CTo1F _ _ => ⟨0x1C00000000, 0xFC00000000⟩
  | .rdRsvd20To3F _ _ => ⟨0x2000000000, 0xE000000000⟩
  | .rdRsvd40To7F _ _ => ⟨0x4000000000, 0xC000000000⟩
  | .cmdRsvd6To7 _ => ⟨0x8000000006, 0xFFFFFFFFFE⟩
  | .cmdRsvdB3 _ => ⟨0x8000000008, 0xFFFFFFFFF8⟩
  | .cmdRsvdB4 _ => ⟨0x8000000010, 0xFFFFFFFFF0⟩
  | .cmdRsvdB5 _ => ⟨0x8000000020, 0xFFFFFFFFE0⟩
  | .cmdRsvdB6 _ => ⟨0x8000000040, 0xFFFFFFFFC0⟩
  | .cmdRsvdB7 _ => ⟨0x8000000080, 0xFFFFFFFF80⟩
  | .cmdRsvdB8 _ => ⟨0x8000000100, 0xFFFFFFFF00⟩
  | .cmdRsvdB9 _ => ⟨0x8000000200, 0xFFFFFFFE00⟩
  | .cmdRsvdB10 _ => ⟨0x8000000400, 0xFFFFFFFC00⟩
  | .cmdRsvdB11 _ => ⟨0x8000000800, 0xFFFFFFF800⟩
  | .cmdRsvdB12 _ => ⟨0x8000001000, 0xFFFFFFF000⟩
  | .cmdRsvdB13 _ => ⟨0x8000002000, 0xFFFFFFE000⟩
  | .cmdRsvdB14 _ => ⟨0x8000004000, 0xFFFFFFC000⟩
  | .cmdRsvdB15 _ => ⟨0x8000008000, 0xFFFFFF8000⟩
  | .cmdRsvdB16 _ => ⟨0x8000010000, 0xFFFFFF0000⟩
  | .cmdRsvdB17 _ => ⟨0x8000020000, 0xFFFFFE0000⟩
  | .cmdRsvdB18 _ => ⟨0x8000040000, 0xFFFFFC0000⟩
  | .cmdRsvdB19 _ => ⟨0x8000080000, 0xFFFFF80000⟩
  | .cmdRsvdB20 _ => ⟨0x8000100000, 0xFFFFF00000⟩
  | .cmdRsvdB21 _ => ⟨0x8000200000, 0xFFFFE00000⟩
  | .cmdRsvdB22 _ => ⟨0x8000400000, 0xFFFFC00000⟩
  | .cmdRsvdB23 _ => ⟨0x8000800000, 0xFFFF800000⟩
  | .cmdRsvdB24 _ => ⟨0x8001000000, 0xFFFF000000⟩
  | .cmdRsvdB25 _ => ⟨0x8002000000, 0xFFFE000000⟩
  | .cmdRsvdB26 _ => ⟨0x8004000000, 0xFFFC000000⟩
  | .cmdRsvdB27 _ => ⟨0x8008000000, 0xFFF8000000⟩
  | .cmdRsvdB28 _ => ⟨0x8010000000, 0xFFF0000000⟩
  | .cmdRsvdB29 _ => ⟨0x8020000000, 0xFFE0000000⟩
  | .cmdRsvdB30 _ => ⟨0x8040000000, 0xFFC0000000⟩
  | .cmdRsvdB31 _ => ⟨0x8080000000, 0xFF80000000⟩

/-- The low `nbits` bits of `w` as a transaction word; the bits above are 0 (notes/assumptions/9.md). -/
def tableWord (nbits w : Nat) : TxnWord := BitVec.ofNat 40 (w % 2 ^ nbits)

/-- What the decoder reads from a word of the host's opcode table; a word longer than a transaction is none. -/
def decodeTableWord (nbits w : Nat) : Option Instr :=
  if nbits ≤ 40 then some (decode (tableWord nbits w)) else none

end Sys2Proof
end

