-- ==== Sys2Proof/Machine/State.lean ====
section
/-! DEFINITION. The state of the block (spec 10_state.md R13), the two fields that stand for its port (what the host
presents and what has been answered), the outcomes, and the state after reset (70_reset_and_hazards.md R148). -/

namespace Sys2Proof.Machine

/-- The status codes of R131. Codes 11 to 15 are never produced and have no constructor (93 U13). -/
inductive Status where
  /-- 0: the transaction is not refused. -/
  | ok
  /-- 1, E_BADADDR: WR or RD of a reserved address. -/
  | badAddr
  /-- 2, E_RO: WR to a read-only address. -/
  | ro
  /-- 3, E_BADCMD: a reserved opcode written to `CMD`. -/
  | badCmd
  /-- 4, E_NOWORDS: CAL with a calibration word not written. -/
  | noWords
  /-- 5, E_RECAL: CAL once calibrated. -/
  | recal
  /-- 6, E_NOCAL: COMP before a successful CAL. -/
  | noCal
  /-- 7, E_NOSAMPLE: COMP without both sample words. -/
  | noSample
  /-- 8, E_NORES: ACC before a successful COMP. -/
  | noRes
  /-- 9, E_ACCFULL: ACC at the largest count. -/
  | accFull
  /-- 10, E_DIV0: AVG of no readings. -/
  | div0
deriving DecidableEq, Repr

/-- The answer to a transaction, `(ST, RDATA)` (R54, R130). -/
structure Response where
  st : Status
  rdata : Data
deriving DecidableEq, Repr

/-- What the host can present to the block: a transaction, or the reset event between transactions (R12, R147). -/
inductive HostEvent where
  | transaction (tw : TxnWord)
  | reset
deriving DecidableEq, Repr

/-- The complete architectural state of the block: 24 registers and 11 flag fields (R13). A signed register holds its
two's-complement pattern (R8). -/
structure Block where
  /-- Raw calibration words (R15). -/
  w1 : BitVec 16
  w2 : BitVec 16
  w3 : BitVec 16
  w4 : BitVec 16
  /-- Raw pressure word and raw temperature word (R18). -/
  d1 : BitVec 16
  d2 : BitVec 16
  /-- Coefficients, at the storage widths of R17. -/
  c1 : BitVec 13
  c2 : BitVec 14
  c3 : BitVec 10
  c4 : BitVec 11
  c5 : BitVec 12
  c6 : BitVec 7
  /-- Pipeline registers, signed (R21 to R25). -/
  ut1 : BitVec 32
  dt : BitVec 32
  off : BitVec 32
  sens : BitVec 32
  dt2 : BitVec 32
  /-- Pressure, unsigned (R26), and temperature, signed (R28). -/
  p : BitVec 16
  t : BitVec 16
  /-- Accumulators: unsigned pressure sum (R30), signed temperature sum (R31), count (R32). -/
  accp : BitVec 32
  acct : BitVec 32
  accn : BitVec 16
  /-- Means: unsigned pressure (R33), signed temperature (R34). -/
  pavg : BitVec 16
  tavg : BitVec 16
  /-- Written-since-reset flags of the input registers (R16, R19). -/
  w1v : Bool
  w2v : Bool
  w3v : Bool
  w4v : Bool
  d1v : Bool
  d2v : Bool
  /-- Uninitialized (false) or Ready (true) (R20). -/
  calv : Bool
  /-- The results are those of a COMP (R29). -/
  resv : Bool
  /-- The means are those of an AVG (R35). -/
  avgv : Bool
  /-- The pressure held is not the full-precision one (R27). -/
  povf : Bool
  /-- The first refusal's code since reset, 0 if none (R36). -/
  ecode : BitVec 4
deriving DecidableEq, Repr

/-- The machine: the block, and the model's two fields for its port. -/
structure State where
  /-- The architectural state (R13). -/
  block : Block
  /-- The model's own: what the host presents from here on, in its order (R12, R49; notes/assumptions/1.md). -/
  pending : List HostEvent
  /-- The model's own: the responses given so far, oldest first (R12; notes/assumptions/2.md). -/
  responses : List Response
deriving DecidableEq, Repr

/-- The block has no fault: "no traps, no exceptions that transfer control, and no interrupts" (R129), and every
transaction has exactly one next state (R57). So this type has no constructor and no step ends here. -/
inductive Fault where
deriving DecidableEq, Repr

/-- Why a step has no meaning. -/
inductive Refusal where
  /-- Raised by an arm of `exec` whose instruction has no meaning yet; no arm does. Safe: the model stops where the
  hardware goes on. -/
  | notModelled (mnemonic : String)
deriving DecidableEq, Repr

/-- The outcome of a step. -/
abbrev Outcome := Host.Outcome State Fault Refusal

/-- The reset state: every register and every flag is 0 (R148). -/
def Block.reset : Block where
  w1 := 0#16
  w2 := 0#16
  w3 := 0#16
  w4 := 0#16
  d1 := 0#16
  d2 := 0#16
  c1 := 0#13
  c2 := 0#14
  c3 := 0#10
  c4 := 0#11
  c5 := 0#12
  c6 := 0#7
  ut1 := 0#32
  dt := 0#32
  off := 0#32
  sens := 0#32
  dt2 := 0#32
  p := 0#16
  t := 0#16
  accp := 0#32
  acct := 0#32
  accn := 0#16
  pavg := 0#16
  tavg := 0#16
  w1v := false
  w2v := false
  w3v := false
  w4v := false
  d1v := false
  d2v := false
  calv := false
  resv := false
  avgv := false
  povf := false
  ecode := 0#4

/-- The machine right after reset: the block in its reset state (R148), nothing presented and nothing answered yet
(notes/assumptions/1.md, notes/assumptions/2.md). -/
def State.reset : State where
  block := Block.reset
  pending := []
  responses := []

end Sys2Proof.Machine
end

