-- ==== Sys2Proof/Machine/Ops.lean ====
section
/-! DEFINITION. The shared operations: ending a transaction with `return OK` or `raise <Code>` (R11, R132, R133), answering
it, taking the next host event, the reset event (R147), and the arithmetic of R9 and R10 with narrowing into a register. -/

namespace Sys2Proof.Machine

/-- The number of a status code (R131). -/
def Status.code : Status → BitVec 4
  | .ok => 0#4
  | .badAddr => 1#4
  | .ro => 2#4
  | .badCmd => 3#4
  | .noWords => 4#4
  | .recal => 5#4
  | .noCal => 6#4
  | .noSample => 7#4
  | .noRes => 8#4
  | .accFull => 9#4
  | .div0 => 10#4

/-- Recording at the end of a transaction with status `c`: `if c != 0 and x[ECODE] = 0: x[ECODE] <- c` (R132). -/
def Block.record (b : Block) (c : Status) : Block :=
  { b with ecode := if c ≠ .ok ∧ b.ecode = 0#4 then c.code else b.ecode }

/-- `raise <Code>`: the one exceptional event. The response is `(Code, 0)`, the code is recorded, nothing else changes
(R11, R130, R132, R133). There is nothing to return from: the next transaction simply follows (R133). -/
def Block.raise (b : Block) (c : Status) : Block × Response := (b.record c, ⟨c, 0#32⟩)

/-- `return OK`, with the value read if there is one and 0 otherwise (R11, R54, R130). -/
def Block.returnOk (b : Block) (rdata : Data) : Block × Response := (b, ⟨.ok, rdata⟩)

/-- A write to an address that is neither `CMD` nor an input register (R70). -/
def Block.refuseWrite (b : Block) (addr : Addr) : Block × Response :=
  if addr.toNat = 0x01 ∨ 0x08 ≤ addr.toNat ∧ addr.toNat ≤ 0x19 then b.raise .ro else b.raise .badAddr

/-- A read of a reserved address (R72). -/
def Block.refuseRead (b : Block) : Block × Response := b.raise .badAddr

/-- A reserved opcode written to `CMD` (R69). -/
def Block.refuseCommand (b : Block) : Block × Response := b.raise .badCmd

/-- The transaction takes effect and its response is given, as one atomic step (R12, R47). -/
def State.answer (s : State) (r : Block × Response) : Outcome :=
  .next { block := r.1, pending := s.pending, responses := s.responses ++ [r.2] }

/-- The reset event takes the block, from any state, to the reset state; it is no transaction and has no response
(R12, R147). -/
def State.applyReset (s : State) : State := { s with block := Block.reset }

/-- The next thing the host presents, and the machine with that thing taken; `none` while it presents nothing (R14, R49). -/
def State.fetch (s : State) : Option (HostEvent × State) :=
  match s.pending with
  | [] => none
  | e :: rest => some (e, { s with pending := rest })

/-- `a >> n` on a signed value: the arithmetic shift, `floor(a / 2^n)` (R9). -/
def sra (a : Int) (n : Nat) : Int := a / 2 ^ n

/-- `tdiv(a, b)`: the quotient truncated toward zero (R10). -/
def tdiv (a b : Int) : Int := Int.tdiv a b

/-- A natural number written to an unsigned register of `w` bits; `beyond` where it does not fit (R8). -/
def narrowU (w : Nat) (n : Nat) (beyond : BitVec w) : BitVec w := if n < 2 ^ w then BitVec.ofNat w n else beyond

/-- An integer written to a signed register of `w` bits; `beyond` where it does not fit (R8). -/
def narrowS (w : Nat) (z : Int) (beyond : BitVec w) : BitVec w :=
  if -(2 ^ (w - 1)) ≤ z ∧ z < 2 ^ (w - 1) then BitVec.ofInt w z else beyond

end Sys2Proof.Machine
end

