-- ==== Sys2Proof/Machine/Flags.lean ====
section
/-! DEFINITION. Every flag computation of the spec: the `STATUS` view (R37), the conditions on the valid flags that the
commands check (R76, R84), and `POVF` (R90). -/

namespace Sys2Proof.Machine

/-- `STATUS = {0[15:0], ECODE[3:0], 0[1:0], D2V, D1V, W4V, W3V, W2V, W1V, POVF, AVGV, RESV, CALV}` (R37). -/
def Block.statusWord (b : Block) : Data :=
  0#16 ++ b.ecode ++ 0#2
    ++ BitVec.ofBool b.d2v ++ BitVec.ofBool b.d1v
    ++ BitVec.ofBool b.w4v ++ BitVec.ofBool b.w3v ++ BitVec.ofBool b.w2v ++ BitVec.ofBool b.w1v
    ++ BitVec.ofBool b.povf ++ BitVec.ofBool b.avgv ++ BitVec.ofBool b.resv ++ BitVec.ofBool b.calv

/-- `x[W1V] = x[W2V] = x[W3V] = x[W4V] = 1` (R76). -/
def Block.wordsWritten (b : Block) : Bool := b.w1v && b.w2v && b.w3v && b.w4v

/-- `x[D1V] = 1 and x[D2V] = 1` (R84). -/
def Block.sampleWritten (b : Block) : Bool := b.d1v && b.d2v

/-- `povf = 1 if (px < 0 or px > 65535) else 0` (R90). -/
def povfOf (px : Int) : Bool := decide (px < 0 ∨ 65535 < px)

end Sys2Proof.Machine
end

