-- ==== Sys2Proof/Machine/Operands.lean ====
section
/-! DEFINITION. Every operand form: the 16-bit operand of a write (R46, R56), the extension of a register's value on a read
(R45), and the host's access to the registers (R68, R71). -/

namespace Sys2Proof.Machine

/-- The operand of a write to an input register: `DATA[15:0]`; `DATA[31:16]` is ignored (R46, R56). -/
def imm16 (data : Data) : BitVec 16 := data.setWidth 16

/-- An unsigned register as read: zero-extended to 32 bits (R45). -/
def zext {w : Nat} (v : BitVec w) : Data := v.setWidth 32

/-- A signed register as read: sign-extended to 32 bits (R45). -/
def sext {w : Nat} (v : BitVec w) : Data := v.signExtend 32

/-- What the host reads at an implemented address: `CMD` reads 0, `STATUS` is the view of the flags, a register reads as
its value extended to 32 bits (R37, R45, R71). -/
def Block.readRegister (b : Block) : RegName → Data
  | .cmd => 0#32
  | .status => b.statusWord
  | .w1 => zext b.w1
  | .w2 => zext b.w2
  | .w3 => zext b.w3
  | .w4 => zext b.w4
  | .d1 => zext b.d1
  | .d2 => zext b.d2
  | .c1 => zext b.c1
  | .c2 => zext b.c2
  | .c3 => zext b.c3
  | .c4 => zext b.c4
  | .c5 => zext b.c5
  | .c6 => zext b.c6
  | .ut1 => sext b.ut1
  | .dt => sext b.dt
  | .off => sext b.off
  | .sens => sext b.sens
  | .dt2 => sext b.dt2
  | .p => zext b.p
  | .t => sext b.t
  | .accp => zext b.accp
  | .acct => sext b.acct
  | .accn => zext b.accn
  | .pavg => zext b.pavg
  | .tavg => sext b.tavg

/-- The 128-word register space as a host sees it: an implemented address reads as its register, a reserved one holds
nothing and reads 0 (R40, R41). -/
def Block.readWord (b : Block) (addr : Addr) : Data :=
  match RegName.ofAddr addr with
  | some r => b.readRegister r
  | none => 0#32

/-- RD of an implemented address: no state change, `(OK, value)` (R71). -/
def Block.readAt (b : Block) (r : RegName) : Block × Response := b.returnOk (b.readRegister r)

/-- The input register takes the value and its valid flag becomes 1 (R68). -/
def Block.storeInput (b : Block) (r : InputReg) (v : BitVec 16) : Block :=
  match r with
  | .w1 => { b with w1 := v, w1v := true }
  | .w2 => { b with w2 := v, w2v := true }
  | .w3 => { b with w3 := v, w3v := true }
  | .w4 => { b with w4 := v, w4v := true }
  | .d1 => { b with d1 := v, d1v := true }
  | .d2 => { b with d2 := v, d2v := true }

/-- WR to an input register: store `DATA[15:0]`, set its flag, `(OK, 0)` (R68). -/
def Block.writeAt (b : Block) (r : InputReg) (data : Data) : Block × Response :=
  (b.storeInput r (imm16 data)).returnOk 0#32

end Sys2Proof.Machine
end

