-- ==== Sys2Proof/Machine/Averaging.lean ====
section
/-! DEFINITION. NOP and the averaging commands ACLR, ACC, AVG (spec 43_averaging.md). -/

namespace Sys2Proof.Machine

/-- NOP as one transaction (R104). -/
def Block.runNop (b : Block) : Block × Response := b.returnOk 0#32

/-- The accumulators become 0 (R105). -/
def Block.clearSums (b : Block) : Block := { b with accp := 0#32, acct := 0#32, accn := 0#16 }

/-- ACLR as one transaction; it succeeds in any state (R105). -/
def Block.runAclr (b : Block) : Block × Response := b.clearSums.returnOk 0#32

/-- The Reading held is added to the sums and the count goes up by 1 (R106). -/
def Block.accumulate (b : Block) : Block :=
  { b with
    accp := narrowU 32 (b.accp.toNat + b.p.toNat) (Config.accpBeyond b.accp b.p)
    acct := narrowS 32 (b.acct.toInt + b.t.toInt) (Config.acctBeyond b.acct b.t)
    accn := b.accn + 1#16 }

/-- ACC as one transaction: E_NORES, then E_ACCFULL, then the addition (R106). -/
def Block.runAcc (b : Block) : Block × Response :=
  if !b.resv then b.raise .noRes
  else if b.accn = 65535#16 then b.raise .accFull
  else b.accumulate.returnOk 0#32

/-- The two means: `ACCP div ACCN` and `tdiv(ACCT, ACCN)` (R108). -/
def Block.divide (b : Block) : Block :=
  { b with
    pavg := narrowU 16 (b.accp.toNat / b.accn.toNat) (Config.pavgBeyond b.accp b.accn)
    tavg := narrowS 16 (tdiv b.acct.toInt b.accn.toNat) (Config.tavgBeyond b.acct b.accn)
    avgv := true }

/-- AVG as one transaction: E_DIV0, then the division (R108, R109). -/
def Block.runAvg (b : Block) : Block × Response :=
  if b.accn = 0#16 then b.raise .div0 else b.divide.returnOk 0#32

/-- `NOP` (R104). -/
def execNop (s : State) : Outcome := s.answer s.block.runNop

/-- `ACLR` (R105). -/
def execAclr (s : State) : Outcome := s.answer s.block.runAclr

/-- `ACC` (R106). -/
def execAcc (s : State) : Outcome := s.answer s.block.runAcc

/-- `AVG` (R108). -/
def execAvg (s : State) : Outcome := s.answer s.block.runAvg

end Sys2Proof.Machine
end

