-- ==== Sys2Proof/Machine/Calibration.lean ====
section
/-! DEFINITION. CAL: the six coefficients out of the four raw words (spec 41_calibration.md). -/

namespace Sys2Proof.Machine

/-- `(w1 >> 3) & 0x1FFF` (R75). -/
def extractC1 (w1 : BitVec 16) : BitVec 13 := ((w1 >>> 3) &&& 0x1FFF).setWidth 13

/-- `((w1 & 0x7) << 10) | ((w2 >> 6) & 0x3FF)` (R75). -/
def extractC2 (w1 w2 : BitVec 16) : BitVec 14 := (((w1 &&& 0x7) <<< 10) ||| ((w2 >>> 6) &&& 0x3FF)).setWidth 14

/-- `(w3 >> 6) & 0x3FF` (R75). -/
def extractC3 (w3 : BitVec 16) : BitVec 10 := ((w3 >>> 6) &&& 0x3FF).setWidth 10

/-- `(w4 >> 7) & 0x7FF` (R75). -/
def extractC4 (w4 : BitVec 16) : BitVec 11 := ((w4 >>> 7) &&& 0x7FF).setWidth 11

/-- `((w2 & 0x3F) << 6) | (w3 & 0x3F)` (R75). -/
def extractC5 (w2 w3 : BitVec 16) : BitVec 12 := (((w2 &&& 0x3F) <<< 6) ||| (w3 &&& 0x3F)).setWidth 12

/-- `w4 & 0x7F` (R75). -/
def extractC6 (w4 : BitVec 16) : BitVec 7 := (w4 &&& 0x7F).setWidth 7

/-- The write-back of a successful CAL, all at once (R75). -/
def Block.loadCoefficients (b : Block) : Block :=
  { b with
    c1 := extractC1 b.w1
    c2 := extractC2 b.w1 b.w2
    c3 := extractC3 b.w3
    c4 := extractC4 b.w4
    c5 := extractC5 b.w2 b.w3
    c6 := extractC6 b.w4
    calv := true }

/-- CAL as one transaction: E_RECAL, then E_NOWORDS, then the extraction (R75, R76). -/
def Block.runCal (b : Block) : Block × Response :=
  if b.calv then b.raise .recal
  else if !b.wordsWritten then b.raise .noWords
  else b.loadCoefficients.returnOk 0#32

/-- `CAL` (R74). -/
def execCal (s : State) : Outcome := s.answer s.block.runCal

end Sys2Proof.Machine
end

