-- ==== Sys2Proof/Machine/Compensation.lean ====
section
/-! DEFINITION. COMP: the seven integer stages and their write-back (spec 42_compensation.md). The stages are computed in
unbounded integers, as R97 allows. -/

namespace Sys2Proof.Machine

/-- Stage 1: `ut1 = (c5 << 3) + 10000` (R85). -/
def stageUt1 (c5 : Int) : Int := c5 * 2 ^ 3 + 10000

/-- Stage 2: `dt = d2 - ut1` (R86). -/
def stageDt (d2 ut1 : Int) : Int := d2 - ut1

/-- Stage 3: `off = c2 + (((c4 - 250) * dt) >> 12) + 10000` (R87). -/
def stageOff (c2 c4 dt : Int) : Int := c2 + sra ((c4 - 250) * dt) 12 + 10000

/-- Stage 4: `sens = (c1 / 2) + (((c3 + 200) * dt) >> 13) + 3000` (R88). -/
def stageSens (c1 c3 dt : Int) : Int := c1 / 2 + sra ((c3 + 200) * dt) 13 + 3000

/-- Stage 5: `px = ((sens * (d1 - off)) >> 12) + 1000` (R89). -/
def stagePx (sens d1 off : Int) : Int := sra (sens * (d1 - off)) 12 + 1000

/-- Stage 5b: `p = trunc_16(px)` (R90). -/
def narrowPx (px : Int) : BitVec 16 := BitVec.ofInt 16 px

/-- Stage 6: `dt2 = dt - (((dt >> 7) * (dt >> 7)) >> 3)` (R91). -/
def stageDt2 (dt : Int) : Int := dt - sra (sra dt 7 * sra dt 7) 3

/-- Stage 7: `t = 200 + ((dt2 * (c6 + 100)) >> 11)` (R93). -/
def stageT (dt2 c6 : Int) : Int := 200 + sra (dt2 * (c6 + 100)) 11

/-- The first-order estimate `t1 = 200 + ((dt * (c6 + 100)) >> 11)`, a reference value the block neither computes nor
holds (R94). -/
def firstOrderT (dt c6 : Int) : Int := 200 + sra (dt * (c6 + 100)) 11

/-- `ut1` of a COMP in this state (R85). -/
def Block.valUt1 (b : Block) : Int := stageUt1 b.c5.toNat

/-- `dt` of a COMP in this state (R86). -/
def Block.valDt (b : Block) : Int := stageDt b.d2.toNat b.valUt1

/-- `off` of a COMP in this state (R87). -/
def Block.valOff (b : Block) : Int := stageOff b.c2.toNat b.c4.toNat b.valDt

/-- `sens` of a COMP in this state (R88). -/
def Block.valSens (b : Block) : Int := stageSens b.c1.toNat b.c3.toNat b.valDt

/-- `px` of a COMP in this state (R89). -/
def Block.valPx (b : Block) : Int := stagePx b.valSens b.d1.toNat b.valOff

/-- `dt2` of a COMP in this state (R91). -/
def Block.valDt2 (b : Block) : Int := stageDt2 b.valDt

/-- `t` of a COMP in this state (R93). -/
def Block.valT (b : Block) : Int := stageT b.valDt2 b.c6.toNat

/-- The write-back of a successful COMP, all at once (R95). -/
def Block.compensate (b : Block) : Block :=
  { b with
    ut1 := BitVec.ofInt 32 b.valUt1
    dt := BitVec.ofInt 32 b.valDt
    off := BitVec.ofInt 32 b.valOff
    sens := BitVec.ofInt 32 b.valSens
    dt2 := BitVec.ofInt 32 b.valDt2
    p := narrowPx b.valPx
    t := BitVec.ofInt 16 b.valT
    povf := povfOf b.valPx
    resv := true }

/-- COMP as one transaction: E_NOCAL, then E_NOSAMPLE, then the computation (R84, R95). -/
def Block.runComp (b : Block) : Block × Response :=
  if !b.calv then b.raise .noCal
  else if !b.sampleWritten then b.raise .noSample
  else b.compensate.returnOk 0#32

/-- `COMP` (R83). -/
def execComp (s : State) : Outcome := s.answer s.block.runComp

end Sys2Proof.Machine
end

