-- ==== Sys2Proof/Machine/HostRead.lean ====
section
/-! DEFINITION. RD of the implemented addresses 0x00 to 0x19 (spec 40_host_access.md R71): `DATA` is ignored, no state of
the block changes, the response is `(OK, value)`. -/

namespace Sys2Proof.Machine

/-- `rd CMD` (R71, R37). -/
def execRdCmd (_data : Data) (s : State) : Outcome := s.answer (s.block.readAt .cmd)

/-- `rd STATUS` (R71, R37). -/
def execRdStatus (_data : Data) (s : State) : Outcome := s.answer (s.block.readAt .status)

/-- `rd W1` (R71, R45). -/
def execRdW1 (_data : Data) (s : State) : Outcome := s.answer (s.block.readAt .w1)

/-- `rd W2` (R71, R45). -/
def execRdW2 (_data : Data) (s : State) : Outcome := s.answer (s.block.readAt .w2)

/-- `rd W3` (R71, R45). -/
def execRdW3 (_data : Data) (s : State) : Outcome := s.answer (s.block.readAt .w3)

/-- `rd W4` (R71, R45). -/
def execRdW4 (_data : Data) (s : State) : Outcome := s.answer (s.block.readAt .w4)

/-- `rd D1` (R71, R45). -/
def execRdD1 (_data : Data) (s : State) : Outcome := s.answer (s.block.readAt .d1)

/-- `rd D2` (R71, R45). -/
def execRdD2 (_data : Data) (s : State) : Outcome := s.answer (s.block.readAt .d2)

/-- `rd C1` (R71, R45). -/
def execRdC1 (_data : Data) (s : State) : Outcome := s.answer (s.block.readAt .c1)

/-- `rd C2` (R71, R45). -/
def execRdC2 (_data : Data) (s : State) : Outcome := s.answer (s.block.readAt .c2)

/-- `rd C3` (R71, R45). -/
def execRdC3 (_data : Data) (s : State) : Outcome := s.answer (s.block.readAt .c3)

/-- `rd C4` (R71, R45). -/
def execRdC4 (_data : Data) (s : State) : Outcome := s.answer (s.block.readAt .c4)

/-- `rd C5` (R71, R45). -/
def execRdC5 (_data : Data) (s : State) : Outcome := s.answer (s.block.readAt .c5)

/-- `rd C6` (R71, R45). -/
def execRdC6 (_data : Data) (s : State) : Outcome := s.answer (s.block.readAt .c6)

/-- `rd UT1` (R71, R45). -/
def execRdUt1 (_data : Data) (s : State) : Outcome := s.answer (s.block.readAt .ut1)

/-- `rd DT` (R71, R45). -/
def execRdDt (_data : Data) (s : State) : Outcome := s.answer (s.block.readAt .dt)

/-- `rd OFF` (R71, R45). -/
def execRdOff (_data : Data) (s : State) : Outcome := s.answer (s.block.readAt .off)

/-- `rd SENS` (R71, R45). -/
def execRdSens (_data : Data) (s : State) : Outcome := s.answer (s.block.readAt .sens)

/-- `rd DT2` (R71, R45). -/
def execRdDt2 (_data : Data) (s : State) : Outcome := s.answer (s.block.readAt .dt2)

/-- `rd P` (R71, R45). -/
def execRdP (_data : Data) (s : State) : Outcome := s.answer (s.block.readAt .p)

/-- `rd T` (R71, R45). -/
def execRdT (_data : Data) (s : State) : Outcome := s.answer (s.block.readAt .t)

/-- `rd ACCP` (R71, R45). -/
def execRdAccp (_data : Data) (s : State) : Outcome := s.answer (s.block.readAt .accp)

/-- `rd ACCT` (R71, R45). -/
def execRdAcct (_data : Data) (s : State) : Outcome := s.answer (s.block.readAt .acct)

/-- `rd ACCN` (R71, R45). -/
def execRdAccn (_data : Data) (s : State) : Outcome := s.answer (s.block.readAt .accn)

/-- `rd PAVG` (R71, R45). -/
def execRdPavg (_data : Data) (s : State) : Outcome := s.answer (s.block.readAt .pavg)

/-- `rd TAVG` (R71, R45). -/
def execRdTavg (_data : Data) (s : State) : Outcome := s.answer (s.block.readAt .tavg)

end Sys2Proof.Machine
end

