-- ==== Sys2Proof/Machine/HostWrite.lean ====
section
/-! DEFINITION. WR to the data input registers 0x02 to 0x07 (spec 40_host_access.md R68): store `DATA[15:0]`, set the
register's valid flag, always succeed. -/

namespace Sys2Proof.Machine

/-- `wr W1, imm` (R68). -/
def execWrW1 (data : Data) (s : State) : Outcome := s.answer (s.block.writeAt .w1 data)

/-- `wr W2, imm` (R68). -/
def execWrW2 (data : Data) (s : State) : Outcome := s.answer (s.block.writeAt .w2 data)

/-- `wr W3, imm` (R68). -/
def execWrW3 (data : Data) (s : State) : Outcome := s.answer (s.block.writeAt .w3 data)

/-- `wr W4, imm` (R68). -/
def execWrW4 (data : Data) (s : State) : Outcome := s.answer (s.block.writeAt .w4 data)

/-- `wr D1, imm` (R68). -/
def execWrD1 (data : Data) (s : State) : Outcome := s.answer (s.block.writeAt .d1 data)

/-- `wr D2, imm` (R68). -/
def execWrD2 (data : Data) (s : State) : Outcome := s.answer (s.block.writeAt .d2 data)

end Sys2Proof.Machine
end

