-- ==== Sys2Proof/Machine/Refused.lean ====
section
/-! DEFINITION. The refused classes of spec/opcode_table.json (R60, R64). Each is a transaction that is answered with its
status, records it (R132) and changes nothing else (R133). -/

namespace Sys2Proof.Machine

/-- `WR.RO.01` (R70). -/
def execWrRo01 (addr : Addr) (_data : Data) (s : State) : Outcome := s.answer (s.block.refuseWrite addr)

/-- `WR.RO.08_0F` (R70). -/
def execWrRo08To0F (addr : Addr) (_data : Data) (s : State) : Outcome := s.answer (s.block.refuseWrite addr)

/-- `WR.RO.10_17` (R70). -/
def execWrRo10To17 (addr : Addr) (_data : Data) (s : State) : Outcome := s.answer (s.block.refuseWrite addr)

/-- `WR.RO.18_19` (R70). -/
def execWrRo18To19 (addr : Addr) (_data : Data) (s : State) : Outcome := s.answer (s.block.refuseWrite addr)

/-- `WR.RSVD.1A_1B` (R70). -/
def execWrRsvd1ATo1B (addr : Addr) (_data : Data) (s : State) : Outcome := s.answer (s.block.refuseWrite addr)

/-- `WR.RSVD.1C_1F` (R70). -/
def execWrRsvd1CTo1F (addr : Addr) (_data : Data) (s : State) : Outcome := s.answer (s.block.refuseWrite addr)

/-- `WR.RSVD.20_3F` (R70). -/
def execWrRsvd20To3F (addr : Addr) (_data : Data) (s : State) : Outcome := s.answer (s.block.refuseWrite addr)

/-- `WR.RSVD.40_7F` (R70). -/
def execWrRsvd40To7F (addr : Addr) (_data : Data) (s : State) : Outcome := s.answer (s.block.refuseWrite addr)

/-- `RD.RSVD.1A_1B` (R72). -/
def execRdRsvd1ATo1B (_addr : Addr) (_data : Data) (s : State) : Outcome := s.answer s.block.refuseRead

/-- `RD.RSVD.1C_1F` (R72). -/
def execRdRsvd1CTo1F (_addr : Addr) (_data : Data) (s : State) : Outcome := s.answer s.block.refuseRead

/-- `RD.RSVD.20_3F` (R72). -/
def execRdRsvd20To3F (_addr : Addr) (_data : Data) (s : State) : Outcome := s.answer s.block.refuseRead

/-- `RD.RSVD.40_7F` (R72). -/
def execRdRsvd40To7F (_addr : Addr) (_data : Data) (s : State) : Outcome := s.answer s.block.refuseRead

/-- `CMD.RSVD.6_7` (R69). -/
def execCmdRsvd6To7 (_op : Data) (s : State) : Outcome := s.answer s.block.refuseCommand

/-- `CMD.RSVD.B3` (R69). -/
def execCmdRsvdB3 (_op : Data) (s : State) : Outcome := s.answer s.block.refuseCommand

/-- `CMD.RSVD.B4` (R69). -/
def execCmdRsvdB4 (_op : Data) (s : State) : Outcome := s.answer s.block.refuseCommand

/-- `CMD.RSVD.B5` (R69). -/
def execCmdRsvdB5 (_op : Data) (s : State) : Outcome := s.answer s.block.refuseCommand

/-- `CMD.RSVD.B6` (R69). -/
def execCmdRsvdB6 (_op : Data) (s : State) : Outcome := s.answer s.block.refuseCommand

/-- `CMD.RSVD.B7` (R69). -/
def execCmdRsvdB7 (_op : Data) (s : State) : Outcome := s.answer s.block.refuseCommand

/-- `CMD.RSVD.B8` (R69). -/
def execCmdRsvdB8 (_op : Data) (s : State) : Outcome := s.answer s.block.refuseCommand

/-- `CMD.RSVD.B9` (R69). -/
def execCmdRsvdB9 (_op : Data) (s : State) : Outcome := s.answer s.block.refuseCommand

/-- `CMD.RSVD.B10` (R69). -/
def execCmdRsvdB10 (_op : Data) (s : State) : Outcome := s.answer s.block.refuseCommand

/-- `CMD.RSVD.B11` (R69). -/
def execCmdRsvdB11 (_op : Data) (s : State) : Outcome := s.answer s.block.refuseCommand

/-- `CMD.RSVD.B12` (R69). -/
def execCmdRsvdB12 (_op : Data) (s : State) : Outcome := s.answer s.block.refuseCommand

/-- `CMD.RSVD.B13` (R69). -/
def execCmdRsvdB13 (_op : Data) (s : State) : Outcome := s.answer s.block.refuseCommand

/-- `CMD.RSVD.B14` (R69). -/
def execCmdRsvdB14 (_op : Data) (s : State) : Outcome := s.answer s.block.refuseCommand

/-- `CMD.RSVD.B15` (R69). -/
def execCmdRsvdB15 (_op : Data) (s : State) : Outcome := s.answer s.block.refuseCommand

/-- `CMD.RSVD.B16` (R69). -/
def execCmdRsvdB16 (_op : Data) (s : State) : Outcome := s.answer s.block.refuseCommand

/-- `CMD.RSVD.B17` (R69). -/
def execCmdRsvdB17 (_op : Data) (s : State) : Outcome := s.answer s.block.refuseCommand

/-- `CMD.RSVD.B18` (R69). -/
def execCmdRsvdB18 (_op : Data) (s : State) : Outcome := s.answer s.block.refuseCommand

/-- `CMD.RSVD.B19` (R69). -/
def execCmdRsvdB19 (_op : Data) (s : State) : Outcome := s.answer s.block.refuseCommand

/-- `CMD.RSVD.B20` (R69). -/
def execCmdRsvdB20 (_op : Data) (s : State) : Outcome := s.answer s.block.refuseCommand

/-- `CMD.RSVD.B21` (R69). -/
def execCmdRsvdB21 (_op : Data) (s : State) : Outcome := s.answer s.block.refuseCommand

/-- `CMD.RSVD.B22` (R69). -/
def execCmdRsvdB22 (_op : Data) (s : State) : Outcome := s.answer s.block.refuseCommand

/-- `CMD.RSVD.B23` (R69). -/
def execCmdRsvdB23 (_op : Data) (s : State) : Outcome := s.answer s.block.refuseCommand

/-- `CMD.RSVD.B24` (R69). -/
def execCmdRsvdB24 (_op : Data) (s : State) : Outcome := s.answer s.block.refuseCommand

/-- `CMD.RSVD.B25` (R69). -/
def execCmdRsvdB25 (_op : Data) (s : State) : Outcome := s.answer s.block.refuseCommand

/-- `CMD.RSVD.B26` (R69). -/
def execCmdRsvdB26 (_op : Data) (s : State) : Outcome := s.answer s.block.refuseCommand

/-- `CMD.RSVD.B27` (R69). -/
def execCmdRsvdB27 (_op : Data) (s : State) : Outcome := s.answer s.block.refuseCommand

/-- `CMD.RSVD.B28` (R69). -/
def execCmdRsvdB28 (_op : Data) (s : State) : Outcome := s.answer s.block.refuseCommand

/-- `CMD.RSVD.B29` (R69). -/
def execCmdRsvdB29 (_op : Data) (s : State) : Outcome := s.answer s.block.refuseCommand

/-- `CMD.RSVD.B30` (R69). -/
def execCmdRsvdB30 (_op : Data) (s : State) : Outcome := s.answer s.block.refuseCommand

/-- `CMD.RSVD.B31` (R69). -/
def execCmdRsvdB31 (_op : Data) (s : State) : Outcome := s.answer s.block.refuseCommand

end Sys2Proof.Machine
end

