-- ==== Sys2Proof/Machine/Dispatch.lean ====
section
/-! DEFINITION. One arm per row of spec/opcode_table.json. -/

namespace Sys2Proof.Machine

def exec (i : Instr) (s : State) : Host.Outcome State Fault Refusal :=
  match i with
  | .nop => Sys2Proof.Machine.execNop s
  | .cal => Sys2Proof.Machine.execCal s
  | .comp => Sys2Proof.Machine.execComp s
  | .aclr => Sys2Proof.Machine.execAclr s
  | .acc => Sys2Proof.Machine.execAcc s
  | .avg => Sys2Proof.Machine.execAvg s
  | .wrW1 data => Sys2Proof.Machine.execWrW1 data s
  | .wrW2 data => Sys2Proof.Machine.execWrW2 data s
  | .wrW3 data => Sys2Proof.Machine.execWrW3 data s
  | .wrW4 data => Sys2Proof.Machine.execWrW4 data s
  | .wrD1 data => Sys2Proof.Machine.execWrD1 data s
  | .wrD2 data => Sys2Proof.Machine.execWrD2 data s
  | .rdCmd data => Sys2Proof.Machine.execRdCmd data s
  | .rdStatus data => Sys2Proof.Machine.execRdStatus data s
  | .rdW1 data => Sys2Proof.Machine.execRdW1 data s
  | .rdW2 data => Sys2Proof.Machine.execRdW2 data s
  | .rdW3 data => Sys2Proof.Machine.execRdW3 data s
  | .rdW4 data => Sys2Proof.Machine.execRdW4 data s
  | .rdD1 data => Sys2Proof.Machine.execRdD1 data s
  | .rdD2 data => Sys2Proof.Machine.execRdD2 data s
  | .rdC1 data => Sys2Proof.Machine.execRdC1 data s
  | .rdC2 data => Sys2Proof.Machine.execRdC2 data s
  | .rdC3 data => Sys2Proof.Machine.execRdC3 data s
  | .rdC4 data => Sys2Proof.Machine.execRdC4 data s
  | .rdC5 data => Sys2Proof.Machine.execRdC5 data s
  | .rdC6 data => Sys2Proof.Machine.execRdC6 data s
  | .rdUt1 data => Sys2Proof.Machine.execRdUt1 data s
  | .rdDt data => Sys2Proof.Machine.execRdDt data s
  | .rdOff data => Sys2Proof.Machine.execRdOff data s
  | .rdSens data => Sys2Proof.Machine.execRdSens data s
  | .rdDt2 data => Sys2Proof.Machine.execRdDt2 data s
  | .rdP data => Sys2Proof.Machine.execRdP data s
  | .rdT data => Sys2Proof.Machine.execRdT data s
  | .rdAccp data => Sys2Proof.Machine.execRdAccp data s
  | .rdAcct data => Sys2Proof.Machine.execRdAcct data s
  | .rdAccn data => Sys2Proof.Machine.execRdAccn data s
  | .rdPavg data => Sys2Proof.Machine.execRdPavg data s
  | .rdTavg data => Sys2Proof.Machine.execRdTavg data s
  | .wrRo01 addr data => Sys2Proof.Machine.execWrRo01 addr data s
  | .wrRo08To0F addr data => Sys2Proof.Machine.execWrRo08To0F addr data s
  | .wrRo10To17 addr data => Sys2Proof.Machine.execWrRo10To17 addr data s
  | .wrRo18To19 addr data => Sys2Proof.Machine.execWrRo18To19 addr data s
  | .wrRsvd1ATo1B addr data => Sys2Proof.Machine.execWrRsvd1ATo1B addr data s
  | .wrRsvd1CTo1F addr data => Sys2Proof.Machine.execWrRsvd1CTo1F addr data s
  | .wrRsvd20To3F addr data => Sys2Proof.Machine.execWrRsvd20To3F addr data s
  | .wrRsvd40To7F addr data => Sys2Proof.Machine.execWrRsvd40To7F addr data s
  | .rdRsvd1ATo1B addr data => Sys2Proof.Machine.execRdRsvd1ATo1B addr data s
  | .rdRsvd1CTo1F addr data => Sys2Proof.Machine.execRdRsvd1CTo1F addr data s
  | .rdRsvd20To3F addr data => Sys2Proof.Machine.execRdRsvd20To3F addr data s
  | .rdRsvd40To7F addr data => Sys2Proof.Machine.execRdRsvd40To7F addr data s
  | .cmdRsvd6To7 op => Sys2Proof.Machine.execCmdRsvd6To7 op s
  | .cmdRsvdB3 op => Sys2Proof.Machine.execCmdRsvdB3 op s
  | .cmdRsvdB4 op => Sys2Proof.Machine.execCmdRsvdB4 op s
  | .cmdRsvdB5 op => Sys2Proof.Machine.execCmdRsvdB5 op s
  | .cmdRsvdB6 op => Sys2Proof.Machine.execCmdRsvdB6 op s
  | .cmdRsvdB7 op => Sys2Proof.Machine.execCmdRsvdB7 op s
  | .cmdRsvdB8 op => Sys2Proof.Machine.execCmdRsvdB8 op s
  | .cmdRsvdB9 op => Sys2Proof.Machine.execCmdRsvdB9 op s
  | .cmdRsvdB10 op => Sys2Proof.Machine.execCmdRsvdB10 op s
  | .cmdRsvdB11 op => Sys2Proof.Machine.execCmdRsvdB11 op s
  | .cmdRsvdB12 op => Sys2Proof.Machine.execCmdRsvdB12 op s
  | .cmdRsvdB13 op => Sys2Proof.Machine.execCmdRsvdB13 op s
  | .cmdRsvdB14 op => Sys2Proof.Machine.execCmdRsvdB14 op s
  | .cmdRsvdB15 op => Sys2Proof.Machine.execCmdRsvdB15 op s
  | .cmdRsvdB16 op => Sys2Proof.Machine.execCmdRsvdB16 op s
  | .cmdRsvdB17 op => Sys2Proof.Machine.execCmdRsvdB17 op s
  | .cmdRsvdB18 op => Sys2Proof.Machine.execCmdRsvdB18 op s
  | .cmdRsvdB19 op => Sys2Proof.Machine.execCmdRsvdB19 op s
  | .cmdRsvdB20 op => Sys2Proof.Machine.execCmdRsvdB20 op s
  | .cmdRsvdB21 op => Sys2Proof.Machine.execCmdRsvdB21 op s
  | .cmdRsvdB22 op => Sys2Proof.Machine.execCmdRsvdB22 op s
  | .cmdRsvdB23 op => Sys2Proof.Machine.execCmdRsvdB23 op s
  | .cmdRsvdB24 op => Sys2Proof.Machine.execCmdRsvdB24 op s
  | .cmdRsvdB25 op => Sys2Proof.Machine.execCmdRsvdB25 op s
  | .cmdRsvdB26 op => Sys2Proof.Machine.execCmdRsvdB26 op s
  | .cmdRsvdB27 op => Sys2Proof.Machine.execCmdRsvdB27 op s
  | .cmdRsvdB28 op => Sys2Proof.Machine.execCmdRsvdB28 op s
  | .cmdRsvdB29 op => Sys2Proof.Machine.execCmdRsvdB29 op s
  | .cmdRsvdB30 op => Sys2Proof.Machine.execCmdRsvdB30 op s
  | .cmdRsvdB31 op => Sys2Proof.Machine.execCmdRsvdB31 op s

end Sys2Proof.Machine
end

