-- ==== Sys2Proof/Machine/Step.lean ====
section
/-! DEFINITION. One step: the next transaction the host presents is decoded and executed, or the reset event is applied, or
the block waits (R12, R14, R147). -/

namespace Sys2Proof.Machine

def step (s : State) : Outcome :=
  match s.fetch with
  | none => .next s
  | some (.reset, s') => .next s'.applyReset
  | some (.transaction tw, s') => exec (decode tw) s'

/-- The host presents this word next, before whatever else it was to present (notes/assumptions/1.md). -/
def State.withFetchWord (s : State) (nbits w : Nat) : State :=
  { s with pending := .transaction (tableWord nbits w) :: s.pending }

end Sys2Proof.Machine
end

