-- ==== Sys2Proof/Machine/Datapath.lean ====
section
/-! DEFINITION. The network of R96 as a 32-bit signed datapath: five multipliers, six right shifts, one left shift, every
value kept in 32 bits. COMP itself is computed in integers (Compensation.lean); that 32 bits give the same registers is the
claim of R97. -/

namespace Sys2Proof.Machine

/-- `dt` in 32 bits: shift-left 3, `+ 10000`, subtract (R96). -/
def Block.netDt (b : Block) : BitVec 32 := b.d2.setWidth 32 - ((b.c5.setWidth 32 <<< 3) + 10000)

/-- Multiplier M1 and what follows it (R96). -/
def Block.netOff (b : Block) : BitVec 32 :=
  b.c2.setWidth 32 + ((b.c4.setWidth 32 - 250) * b.netDt).sshiftRight 12 + 10000

/-- Multiplier M2 and what follows it (R96). -/
def Block.netSens (b : Block) : BitVec 32 :=
  (b.c1.setWidth 32 >>> 1) + ((b.c3.setWidth 32 + 200) * b.netDt).sshiftRight 13 + 3000

/-- Multiplier M3 and what follows it (R96). -/
def Block.netPx (b : Block) : BitVec 32 := (b.netSens * (b.d1.setWidth 32 - b.netOff)).sshiftRight 12 + 1000

/-- Multiplier M4 and what follows it (R96). -/
def Block.netDt2 (b : Block) : BitVec 32 :=
  b.netDt - (b.netDt.sshiftRight 7 * b.netDt.sshiftRight 7).sshiftRight 3

/-- Multiplier M5 and what follows it (R96). -/
def Block.netT (b : Block) : BitVec 32 := 200 + (b.netDt2 * (b.c6.setWidth 32 + 100)).sshiftRight 11

/-- The write-back of COMP from the 32-bit network (R95, R96, R97). -/
def Block.compensate32 (b : Block) : Block :=
  { b with
    ut1 := (b.c5.setWidth 32 <<< 3) + 10000
    dt := b.netDt
    off := b.netOff
    sens := b.netSens
    dt2 := b.netDt2
    p := b.netPx.setWidth 16
    t := b.netT.setWidth 16
    povf := b.netPx.slt 0 || BitVec.slt 65535 b.netPx
    resv := true }

end Sys2Proof.Machine
end

