-- ==== Sys2Proof/Machine/Sequences.lean ====
section
/-! DEFINITION. What the host does: the assembler's lines and pseudo-instructions (spec 30_encoding.md R62, R63), the
Transport's contract and the driver's three operations as lists of transactions (44_host_sequences.md). The block needs none
of it to run; the sensor and the Transport themselves are out of scope (R4) and enter as the results of exchanges. -/

namespace Sys2Proof.Machine

/-- `wr <reg>, <imm>`: `TW = {1, addr(<reg>), <imm> mod 2^32}` (R62). -/
def asmWr (r : RegName) (imm : Int) : TxnWord := txnWord true r.addr (BitVec.ofInt 32 imm)

/-- `rd <reg>`: `TW = {0, addr(<reg>), 0}` (R62). -/
def asmRd (r : RegName) : TxnWord := txnWord false r.addr 0

/-- `nop` (R63). -/
def asmNop : TxnWord := asmWr .cmd 0

/-- `cal` (R63). -/
def asmCal : TxnWord := asmWr .cmd 1

/-- `comp` (R63). -/
def asmComp : TxnWord := asmWr .cmd 2

/-- `aclr` (R63). -/
def asmAclr : TxnWord := asmWr .cmd 3

/-- `acc` (R63). -/
def asmAcc : TxnWord := asmWr .cmd 4

/-- `avg` (R63). -/
def asmAvg : TxnWord := asmWr .cmd 5

/-- `ldcal a, b, c, d` (R63). -/
def asmLdcal (a b c d : Int) : List TxnWord := [asmWr .w1 a, asmWr .w2 b, asmWr .w3 c, asmWr .w4 d, asmCal]

/-- `sample p, t`: the temperature word first (R63). -/
def asmSample (p t : Int) : List TxnWord := [asmWr .d2 t, asmWr .d1 p, asmComp]

/-- The driver's error classes, all outside the block (R124). -/
inductive DriverError where
  | setup
  | write
  | read
deriving DecidableEq, Repr

/-- How an `exchange(b0, b1)` of the Transport ends: a word, WriteError, ReadError, or never (R113, R127). -/
inductive Exchange where
  | word (v : BitVec 16)
  | writeError
  | readError
  | never
deriving DecidableEq, Repr

/-- PRESUMED (log 11): a response's first byte is the high half, `word = (byte0 << 8) | byte1` (R119, 93 G2). -/
def assembleWord (byte0 byte1 : BitVec 8) : BitVec 16 := byte0 ++ byte1

/-- One thing the host does in a sequence: exchange two command bytes with the sensor and write the word to a register, or
issue a transaction. -/
inductive HostAction where
  | fetch (b0 b1 : BitVec 8) (dest : RegName)
  | issue (tw : TxnWord)
deriving DecidableEq, Repr

/-- How a sequence ends: to its last line, stopped by an error, or waiting for ever (R120, R121, R127). `done` says that the
last line was presented, not that every response was OK (log 15). -/
inductive SequenceEnd where
  | done
  | failed (e : DriverError)
  | blocked
deriving DecidableEq, Repr

/-- What the block sees of a sequence, and how the sequence ends. -/
structure HostRun where
  events : List HostEvent
  ended : SequenceEnd
deriving DecidableEq, Repr

/-- The sequence goes on after presenting one more transaction. -/
def HostRun.after (tw : TxnWord) (r : HostRun) : HostRun := { r with events := .transaction tw :: r.events }

/-- A sequence against the results of its exchanges, in order. On a failed exchange the host stops and the word is not
written (R120, R121); where no result is left the exchange has not returned (R127).
DESIGN CHOICE (log 15): R120 to R122 write "expect OK" and do not say what the host does when the status is not OK; here
the host looks at no response and goes on to the last line. -/
def runActions : List HostAction → List Exchange → HostRun
  | [], _ => ⟨[], .done⟩
  | .issue tw :: rest, xs => (runActions rest xs).after tw
  | .fetch _ _ dest :: rest, .word v :: xs => (runActions rest xs).after (asmWr dest v.toNat)
  | .fetch _ _ _ :: _, .writeError :: _ => ⟨[], .failed .write⟩
  | .fetch _ _ _ :: _, .readError :: _ => ⟨[], .failed .read⟩
  | .fetch _ _ _ :: _, .never :: _ => ⟨[], .blocked⟩
  | .fetch _ _ _ :: _, [] => ⟨[], .blocked⟩

/-- INIT, steps 3 and 4: the four calibration exchanges of R117, then `cal` (R120). -/
def initActions : List HostAction :=
  [.fetch 0x1D 0x50 .w1, .fetch 0x1D 0x60 .w2, .fetch 0x1D 0x90 .w3, .fetch 0x1D 0xA0 .w4, .issue asmCal]

/-- INIT: where the platform's set-up fails the block is untouched and the driver answers SetupError (R120, R124). -/
def initSequence (setupOk : Bool) (xs : List Exchange) : HostRun :=
  if setupOk then runActions initActions xs else ⟨[], .failed .setup⟩

/-- The two sample exchanges, with the commands as DOC swaps them, `D2` before `D1` (R118, 90 C3). -/
def sampleActions : List HostAction := [.fetch 0x0F 0x20 .d2, .fetch 0x0F 0x40 .d1, .issue asmComp]

/-- READ_ONCE (R121). -/
def readOnceActions : List HostAction := sampleActions ++ [.issue (asmRd .p), .issue (asmRd .t)]

/-- The loop of READ_AVG: `k` times READ_ONCE steps 1 to 3 and `acc` (R122). -/
def accumulateActions : Nat → List HostAction
  | 0 => []
  | k + 1 => sampleActions ++ .issue asmAcc :: accumulateActions k

/-- READ_AVG(k) (R122, R123). DESIGN CHOICE (log 15): R123 ends READ_AVG(0) at the `avg` that answers E_DIV0 and does not
say whether the host goes on; here it goes on to the two reads, which return the means held before. R123 lets a host also
reject `k = 0` before it touches the block; this host does not. -/
def readAvgActions (k : Nat) : List HostAction :=
  .issue asmAclr :: accumulateActions k ++ [.issue asmAvg, .issue (asmRd .pavg), .issue (asmRd .tavg)]

/-- The host presents these events after whatever it was to present already (R49, R127). -/
def State.present (s : State) (events : List HostEvent) : State := { s with pending := s.pending ++ events }

end Sys2Proof.Machine
end

