-- ==== Sys2Proof/Machine/Transaction.lean ====
section
/-! DEFINITION. The shape of the machine that R12 asks for, `step : State -> Txn -> State x Response`, written from the
decode of R55 and the cases of R69 without the rows of the opcode table. `exec` over the 80 rows is the model; that the two
agree is a claim (Certificates/Slice0/Obligations.lean). -/

namespace Sys2Proof.Machine

/-- A write to `CMD`: the command its 32-bit opcode names, E_BADCMD otherwise (R69). -/
def Block.command (b : Block) (op : Data) : Block × Response :=
  if op = 0#32 then b.runNop
  else if op = 1#32 then b.runCal
  else if op = 2#32 then b.runComp
  else if op = 3#32 then b.runAclr
  else if op = 4#32 then b.runAcc
  else if op = 5#32 then b.runAvg
  else b.refuseCommand

/-- One transaction, by its fields: the block after it and its response (R12, R55). -/
def Block.transact (b : Block) (tw : TxnWord) : Block × Response :=
  if txnW tw then
    if txnAddr tw = 0#7 then b.command (txnData tw)
    else
      match InputReg.ofAddr (txnAddr tw) with
      | some r => b.writeAt r (txnData tw)
      | none => b.refuseWrite (txnAddr tw)
  else
    match RegName.ofAddr (txnAddr tw) with
    | some r => b.readAt r
    | none => b.refuseRead

end Sys2Proof.Machine
end

