-- ==== Sys2Proof/Safety.lean ====
section
/-! DEFINITION. What holds in every state a run reaches: the invariants of R38 with the ranges they rest on, and the
relations COMP leaves between the registers (R99). Also "no fault recorded" as R132 says to state it. -/

namespace Sys2Proof.Machine

/-- The machine after a transaction: the block `b`, the response `r` given, nothing else of the port touched (R12). -/
def State.answeredWith (s : State) (b : Block) (r : Response) : State where
  block := b
  pending := s.pending
  responses := s.responses ++ [r]

/-- The block after a refusal with this code: "the state before it (up to `ECODE`)", and `ECODE` takes the first code
since reset (R132, R133). -/
def Block.refusedAs (b : Block) (code : BitVec 4) : Block :=
  { b with ecode := if b.ecode = 0#4 then code else b.ecode }

/-- "no fault recorded" is `ECODE = 0` (R132). -/
abbrev Block.NoFaultRecorded (b : Block) : Prop := b.ecode = 0#4

/-- R38 (a): Ready implies all four words were written. -/
abbrev Block.ReadyHasWords (b : Block) : Prop :=
  b.calv = true → b.w1v = true ∧ b.w2v = true ∧ b.w3v = true ∧ b.w4v = true

/-- R38 (b): a result implies Ready and both sample words. -/
abbrev Block.ResultHasInputs (b : Block) : Prop :=
  b.resv = true → b.calv = true ∧ b.d1v = true ∧ b.d2v = true

/-- R38 (c): a reading was summed only after a result. -/
abbrev Block.CountHasResult (b : Block) : Prop := 0 < b.accn.toNat → b.resv = true

/-- R38 (d), first half: the coefficients are zero while Uninitialized. -/
abbrev Block.NoCoefficientsBefore (b : Block) : Prop :=
  b.calv = false → b.c1 = 0#13 ∧ b.c2 = 0#14 ∧ b.c3 = 0#10 ∧ b.c4 = 0#11 ∧ b.c5 = 0#12 ∧ b.c6 = 0#7

/-- R38 (d), second half: the results are zero before the first COMP. -/
abbrev Block.NoResultBefore (b : Block) : Prop :=
  b.resv = false → b.ut1 = 0#32 ∧ b.dt = 0#32 ∧ b.off = 0#32 ∧ b.sens = 0#32 ∧ b.dt2 = 0#32 ∧ b.p = 0#16 ∧ b.t = 0#16 ∧ b.povf = false

/-- R38 (e), R78: the coefficients lie in the ranges of the extraction formulas. -/
abbrev Block.CoefficientRanges (b : Block) : Prop :=
  b.c1.toNat ≤ 8191 ∧ b.c2.toNat ≤ 8191 ∧ b.c3.toNat ≤ 1023 ∧ b.c4.toNat ≤ 511 ∧ b.c5.toNat ≤ 4095 ∧ b.c6.toNat ≤ 127

/-- R38 (f): the sums are sums of as many readings as the count says. -/
abbrev Block.SumRanges (b : Block) : Prop :=
  b.accp.toNat ≤ 65535 * b.accn.toNat ∧
  -6095 * (b.accn.toNat : Int) ≤ b.acct.toInt ∧ b.acct.toInt ≤ 3757 * (b.accn.toNat : Int)

/-- R38 (g): the means are zero before the first AVG. -/
abbrev Block.NoMeanBefore (b : Block) : Prop := b.avgv = false → b.pavg = 0#16 ∧ b.tavg = 0#16

/-- R28, R34: the temperatures held lie in `[-6095, 3757]`. -/
abbrev Block.TemperatureRanges (b : Block) : Prop :=
  (-6095 ≤ b.t.toInt ∧ b.t.toInt ≤ 3757) ∧ (-6095 ≤ b.tavg.toInt ∧ b.tavg.toInt ≤ 3757)

/-- R21 to R25: the pipeline registers' ranges after a COMP. -/
abbrev Block.PipelineRanges (b : Block) : Prop :=
  b.resv = true →
    (10000 ≤ b.ut1.toInt ∧ b.ut1.toInt ≤ 42760) ∧ (-42760 ≤ b.dt.toInt ∧ b.dt.toInt ≤ 55535) ∧
    (6610 ≤ b.off.toInt ∧ b.off.toInt ≤ 21729) ∧ (-3384 ≤ b.sens.toInt ∧ b.sens.toInt ≤ 15385) ∧
    (-56788 ≤ b.dt2.toInt ∧ b.dt2.toInt ≤ 32099)

/-- R131: codes 11 to 15 are never recorded. -/
abbrev Block.CodeRange (b : Block) : Prop := b.ecode.toNat ≤ 10

/-- R38 with the ranges it rests on (R21 to R25, R28, R34, R131). -/
structure Block.Inv (b : Block) : Prop where
  readyHasWords : b.ReadyHasWords
  resultHasInputs : b.ResultHasInputs
  countHasResult : b.CountHasResult
  noCoefficientsBefore : b.NoCoefficientsBefore
  noResultBefore : b.NoResultBefore
  coefficientRanges : b.CoefficientRanges
  sumRanges : b.SumRanges
  noMeanBefore : b.NoMeanBefore
  temperatureRanges : b.TemperatureRanges
  pipelineRanges : b.PipelineRanges
  codeRange : b.CodeRange

/-- While a result is held, the pipeline registers, the temperature and the coefficients satisfy the formulas of COMP;
`T` is computed from `DT2` (R85, R87, R88, R91, R93, R99). The coefficients cannot change meanwhile, since a result
implies Ready (R38 (b), R80). -/
structure Block.Coherent (b : Block) : Prop where
  resultHasInputs : b.ResultHasInputs
  ut1 : b.resv = true → b.ut1.toInt = 8 * (b.c5.toNat : Int) + 10000
  off : b.resv = true →
    b.off.toInt = (b.c2.toNat : Int) + ((b.c4.toNat : Int) - 250) * b.dt.toInt / 4096 + 10000
  sens : b.resv = true →
    b.sens.toInt = (b.c1.toNat : Int) / 2 + ((b.c3.toNat : Int) + 200) * b.dt.toInt / 8192 + 3000
  dt2 : b.resv = true →
    b.dt2.toInt = b.dt.toInt - (b.dt.toInt / 128) * (b.dt.toInt / 128) / 8
  t : b.resv = true → b.t.toInt = 200 + b.dt2.toInt * ((b.c6.toNat : Int) + 100) / 2048

end Sys2Proof.Machine
end

