-- ==== Sys2Proof/Certificates/Slice0/Obligations.lean ====
section
/-! DEFINITION. The statements for the provers, from the numbered rules of spec/. "`exec i s = .next (s.answeredWith b r)`"
says the whole next state: the block is `b`, the response `r` was given, what is pending stays pending. Where a result is
given field by field, `t.block = { s.block with ... := t.block... }` is the frame: every register and flag not named there is
as it was. The block has no memory (R40); the register space is those registers. -/

open Sys2Proof Sys2Proof.Machine

/-- Transaction words of the spec's tables decode to the instructions they stand for (30_encoding.md R53, R55, R59, 95_test_vectors.md 2.1). -/
def Obligations.SpecWordsDecodeAsListed : Prop :=
  decode 0x8000000000 = .nop ∧ decode 0x8000000001 = .cal ∧ decode 0x8000000002 = .comp ∧
  decode 0x8000000003 = .aclr ∧ decode 0x8000000004 = .acc ∧ decode 0x8000000005 = .avg ∧
  decode 0x8000000006 = .cmdRsvd6To7 6 ∧ decode 0x8000000101 = .cmdRsvdB8 0x101 ∧
  decode 0x8080000001 = .cmdRsvdB31 0x80000001 ∧ decode 0x87000067EB = .wrD2 26603 ∧
  decode 0x8800000005 = .wrRo08To0F 0x08 5 ∧ decode 0x9A00000001 = .wrRsvd1ATo1B 0x1A 1 ∧
  decode 0x13DEADBEEF = .rdP 0xDEADBEEF ∧ decode 0x7F00000000 = .rdRsvd40To7F 0x7F 0

/-- Decoding the encoding of any well-formed instruction gives it back (30_encoding.md R53, R55, R59, R64). -/
def Obligations.DecodeInvertsEncode : Prop :=
  ∀ i : Instr, i.wellFormed = true → decode (encode i) = i

/-- Every 40-bit word decodes to one well-formed instruction whose encoding is that word (30_encoding.md R55, R57, R59). -/
def Obligations.EncodeInvertsDecode : Prop :=
  ∀ tw : TxnWord, (decode tw).wellFormed = true ∧ encode (decode tw) = tw

/-- Every word lies in the row of its decoding and in no other row of the opcode table (30_encoding.md R64). -/
def Obligations.TableRowsPartitionTheWords : Prop :=
  ∀ tw : TxnWord, inRow (opcodeRow (decode tw)) tw = true ∧
    ∀ i : Instr, inRow (opcodeRow i) tw = true → opcodeRow i = opcodeRow (decode tw)

/-- A step runs the decoded transaction that is presented next (00_scope.md R12, 20_memory.md R49). -/
def Obligations.StepRunsPresentedTransaction : Prop :=
  ∀ (s : State) (tw : TxnWord) (rest : List HostEvent), s.pending = .transaction tw :: rest →
    step s = exec (decode tw) { s with pending := rest }

/-- With nothing presented a step changes nothing (the waiting step is the model's choice, log 3) (10_state.md R14). -/
def Obligations.StepWaitsWhileNothingIsPresented : Prop :=
  ∀ s : State, s.pending = [] → step s = .next s

/-- The reset event takes the block from any state to all zeros (the port clauses are the model's choice, logs 1, 2, 8) (70_reset_and_hazards.md R147, R148). -/
def Obligations.ResetEventClearsTheBlock : Prop :=
  ∀ (s : State) (rest : List HostEvent), s.pending = .reset :: rest →
    ∃ t, step s = .next t ∧ t.pending = rest ∧ t.responses = s.responses ∧
        t.block.w1 = 0 ∧ t.block.w2 = 0 ∧ t.block.w3 = 0 ∧ t.block.w4 = 0 ∧ t.block.d1 = 0 ∧ t.block.d2 = 0 ∧ t.block.c1 = 0 ∧ t.block.c2 = 0 ∧ t.block.c3 = 0 ∧ t.block.c4 = 0 ∧ t.block.c5 = 0 ∧ t.block.c6 = 0 ∧
        t.block.ut1 = 0 ∧ t.block.dt = 0 ∧ t.block.off = 0 ∧ t.block.sens = 0 ∧ t.block.dt2 = 0 ∧ t.block.p = 0 ∧ t.block.t = 0 ∧ t.block.accp = 0 ∧ t.block.acct = 0 ∧ t.block.accn = 0 ∧ t.block.pavg = 0 ∧ t.block.tavg = 0 ∧
        t.block.calv = false ∧ t.block.resv = false ∧ t.block.avgv = false ∧ t.block.povf = false ∧ t.block.w1v = false ∧ t.block.w2v = false ∧ t.block.w3v = false ∧ t.block.w4v = false ∧ t.block.d1v = false ∧ t.block.d2v = false ∧
        t.block.ecode = 0 ∧ t.block.readWord 0x01 = 0

/-- Right after reset every address of the register space reads 0 and COMP, CAL, ACC, AVG are refused (70_reset_and_hazards.md R148, 95_test_vectors.md 2.6). -/
def Obligations.ResetReadsZeroEverywhere : Prop :=
  (∀ a : Addr, State.reset.block.readWord a = 0) ∧
  exec .comp State.reset = .next (State.reset.answeredWith (State.reset.block.refusedAs 6) ⟨.noCal, 0⟩) ∧
  exec .cal State.reset = .next (State.reset.answeredWith (State.reset.block.refusedAs 4) ⟨.noWords, 0⟩) ∧
  exec .acc State.reset = .next (State.reset.answeredWith (State.reset.block.refusedAs 8) ⟨.noRes, 0⟩) ∧
  exec .avg State.reset = .next (State.reset.answeredWith (State.reset.block.refusedAs 10) ⟨.div0, 0⟩)

/-- The 80 decoded rows and the transaction function written from R55 and R69 are the same machine (00_scope.md R12, 30_encoding.md R55, 40_host_access.md R67 to R72). -/
def Obligations.StepIsTheTransactionFunction : Prop :=
  ∀ (s : State) (tw : TxnWord) (rest : List HostEvent), s.pending = .transaction tw :: rest →
    step s = .next
      { block := (s.block.transact tw).1
        pending := rest
        responses := s.responses ++ [(s.block.transact tw).2] }

/-- Every instruction in every state completes with exactly one response (30_encoding.md R54, R57, 60_exceptions.md R130, R131). -/
def Obligations.EveryTransactionIsAnsweredOnce : Prop :=
  ∀ (i : Instr) (s : State), ∃ t r, exec i s = .next t ∧ t.pending = s.pending ∧
    t.responses = s.responses ++ [r] ∧ (r.st ≠ .ok → r.rdata = 0) ∧
    (i.wellFormed = true → txnW (encode i) = true → r.rdata = 0) ∧ r.st.code.toNat ≤ 10

/-- A refused transaction leaves the block as it was, up to ECODE (60_exceptions.md R129, R133). -/
def Obligations.RefusalChangesNothingButEcode : Prop :=
  ∀ (i : Instr) (s t : State) (r : Response), exec i s = .next t → t.responses = s.responses ++ [r] →
    r.st ≠ .ok → t.block = { s.block with ecode := t.block.ecode }

/-- ECODE takes the status of the first refused transaction and keeps it (R132). -/
def Obligations.FirstRefusalIsRecorded : Prop :=
  (∀ (i : Instr) (s t : State) (r : Response), exec i s = .next t → t.responses = s.responses ++ [r] →
    t.block.ecode = if r.st ≠ .ok ∧ s.block.ecode = 0 then r.st.code else s.block.ecode) ∧
  (∀ (i : Instr) (s : State) (e : BitVec 4), (∀ d, i ≠ .rdStatus d) →
    ∃ t u, exec i s = .next t ∧ exec i { s with block := { s.block with ecode := e } } = .next u ∧
      u.responses = t.responses ∧ u.block = { t.block with ecode := u.block.ecode }) ∧
  (∀ (s t : State), step s = .next t → s.block.ecode ≠ 0 → t.block.ecode ≠ s.block.ecode →
    ∃ rest, s.pending = .reset :: rest)

/-- A write to an input register stores DATA[15:0], sets its flag and changes nothing else (R68). -/
def Obligations.WriteStoresLowHalfAndSetsFlag : Prop :=
  ∀ (d : Data) (s : State),
    exec (.wrW1 d) s = .next (s.answeredWith
      { s.block with w1 := BitVec.ofNat 16 (d.toNat % 65536), w1v := true } ⟨.ok, 0⟩) ∧
    exec (.wrW2 d) s = .next (s.answeredWith
      { s.block with w2 := BitVec.ofNat 16 (d.toNat % 65536), w2v := true } ⟨.ok, 0⟩) ∧
    exec (.wrW3 d) s = .next (s.answeredWith
      { s.block with w3 := BitVec.ofNat 16 (d.toNat % 65536), w3v := true } ⟨.ok, 0⟩) ∧
    exec (.wrW4 d) s = .next (s.answeredWith
      { s.block with w4 := BitVec.ofNat 16 (d.toNat % 65536), w4v := true } ⟨.ok, 0⟩) ∧
    exec (.wrD1 d) s = .next (s.answeredWith
      { s.block with d1 := BitVec.ofNat 16 (d.toNat % 65536), d1v := true } ⟨.ok, 0⟩) ∧
    exec (.wrD2 d) s = .next (s.answeredWith
      { s.block with d2 := BitVec.ofNat 16 (d.toNat % 65536), d2v := true } ⟨.ok, 0⟩)

/-- Writes to read-only and to reserved addresses are refused with E_RO and E_BADADDR (R70). -/
def Obligations.WriteElsewhereIsRefused : Prop :=
  ∀ (a : Addr) (d : Data) (s : State) (i : Instr), i.wellFormed = true →
    (i ∈ [Instr.wrRo01 a d, Instr.wrRo08To0F a d, Instr.wrRo10To17 a d, Instr.wrRo18To19 a d] →
      exec i s = .next (s.answeredWith (s.block.refusedAs 2) ⟨.ro, 0⟩)) ∧
    (i ∈ [Instr.wrRsvd1ATo1B a d, Instr.wrRsvd1CTo1F a d, Instr.wrRsvd20To3F a d, Instr.wrRsvd40To7F a d] →
      exec i s = .next (s.answeredWith (s.block.refusedAs 1) ⟨.badAddr, 0⟩))

/-- Reads of reserved addresses answer E_BADADDR with RDATA 0 (ill-formed terms too: the model's choice, log 7) (40_host_access.md R72). -/
def Obligations.ReservedReadIsRefused : Prop :=
  ∀ (a : Addr) (d : Data) (s : State),
    ∀ i ∈ [Instr.rdRsvd1ATo1B a d, Instr.rdRsvd1CTo1F a d, Instr.rdRsvd20To3F a d, Instr.rdRsvd40To7F a d],
      exec i s = .next (s.answeredWith (s.block.refusedAs 1) ⟨.badAddr, 0⟩)

/-- Every reserved opcode row answers E_BADCMD (ill-formed terms too: the model's choice, log 7) (40_host_access.md R69, 30_encoding.md R60). -/
def Obligations.ReservedOpcodeIsRefused : Prop :=
  ∀ (op : Data) (s : State),
    ∀ i ∈ [Instr.cmdRsvd6To7 op, Instr.cmdRsvdB3 op, Instr.cmdRsvdB4 op, Instr.cmdRsvdB5 op, Instr.cmdRsvdB6 op,
      Instr.cmdRsvdB7 op, Instr.cmdRsvdB8 op, Instr.cmdRsvdB9 op, Instr.cmdRsvdB10 op, Instr.cmdRsvdB11 op,
      Instr.cmdRsvdB12 op, Instr.cmdRsvdB13 op, Instr.cmdRsvdB14 op, Instr.cmdRsvdB15 op, Instr.cmdRsvdB16 op,
      Instr.cmdRsvdB17 op, Instr.cmdRsvdB18 op, Instr.cmdRsvdB19 op, Instr.cmdRsvdB20 op, Instr.cmdRsvdB21 op,
      Instr.cmdRsvdB22 op, Instr.cmdRsvdB23 op, Instr.cmdRsvdB24 op, Instr.cmdRsvdB25 op, Instr.cmdRsvdB26 op,
      Instr.cmdRsvdB27 op, Instr.cmdRsvdB28 op, Instr.cmdRsvdB29 op, Instr.cmdRsvdB30 op, Instr.cmdRsvdB31 op],
      exec i s = .next (s.answeredWith (s.block.refusedAs 3) ⟨.badCmd, 0⟩)

/-- A word written to CMD is a command exactly for DATA 0 to 5; every other value is refused (30_encoding.md R56, R59, 40_host_access.md R69). -/
def Obligations.OnlySixOpcodesAreCommands : Prop :=
  (decode (txnWord true 0 0) = .nop ∧ decode (txnWord true 0 1) = .cal ∧ decode (txnWord true 0 2) = .comp ∧
   decode (txnWord true 0 3) = .aclr ∧ decode (txnWord true 0 4) = .acc ∧ decode (txnWord true 0 5) = .avg) ∧
  ∀ (op : Data) (s : State), 6 ≤ op.toNat →
    exec (decode (txnWord true 0 op)) s = .next (s.answeredWith (s.block.refusedAs 3) ⟨.badCmd, 0⟩)

/-- By word: writes to 0x01 and 0x08 to 0x19 answer E_RO, any access to 0x1A to 0x7F answers E_BADADDR (20_memory.md R41, 30_encoding.md R55, R60). -/
def Obligations.AddressClassesAreRefused : Prop :=
  ∀ (a : Addr) (d : Data) (s : State),
    (a.toNat = 1 ∨ 8 ≤ a.toNat ∧ a.toNat ≤ 25 →
      exec (decode (txnWord true a d)) s = .next (s.answeredWith (s.block.refusedAs 2) ⟨.ro, 0⟩)) ∧
    (26 ≤ a.toNat → ∀ w : Bool,
      exec (decode (txnWord w a d)) s = .next (s.answeredWith (s.block.refusedAs 1) ⟨.badAddr, 0⟩))

/-- Reading a register returns its value, zero- or sign-extended, and changes nothing (R45). -/
def Obligations.ReadExtendsTheRegister : Prop :=
  ∀ (d : Data) (s : State),
    (∀ x ∈ [(Instr.rdW1 d, s.block.w1.toNat), (Instr.rdW2 d, s.block.w2.toNat), (Instr.rdW3 d, s.block.w3.toNat),
        (Instr.rdW4 d, s.block.w4.toNat), (Instr.rdD1 d, s.block.d1.toNat), (Instr.rdD2 d, s.block.d2.toNat),
        (Instr.rdC1 d, s.block.c1.toNat), (Instr.rdC2 d, s.block.c2.toNat), (Instr.rdC3 d, s.block.c3.toNat),
        (Instr.rdC4 d, s.block.c4.toNat), (Instr.rdC5 d, s.block.c5.toNat), (Instr.rdC6 d, s.block.c6.toNat),
        (Instr.rdP d, s.block.p.toNat), (Instr.rdAccp d, s.block.accp.toNat), (Instr.rdAccn d, s.block.accn.toNat),
        (Instr.rdPavg d, s.block.pavg.toNat)],
      ∃ v : Data, v.toNat = x.2 ∧ exec x.1 s = .next (s.answeredWith s.block ⟨.ok, v⟩)) ∧
    (∀ x ∈ [(Instr.rdUt1 d, s.block.ut1.toInt), (Instr.rdDt d, s.block.dt.toInt), (Instr.rdOff d, s.block.off.toInt),
        (Instr.rdSens d, s.block.sens.toInt), (Instr.rdDt2 d, s.block.dt2.toInt), (Instr.rdT d, s.block.t.toInt),
        (Instr.rdAcct d, s.block.acct.toInt), (Instr.rdTavg d, s.block.tavg.toInt)],
      ∃ v : Data, v.toInt = x.2 ∧ exec x.1 s = .next (s.answeredWith s.block ⟨.ok, v⟩))

/-- STATUS reads as the flag word of R37, CMD reads 0, and neither can be stored into (R37). -/
def Obligations.StatusAndCmdAreViews : Prop :=
  (∀ (d : Data) (s : State), ∃ v : Data,
    exec (.rdStatus d) s = .next (s.answeredWith s.block ⟨.ok, v⟩) ∧
    v.toNat = s.block.calv.toNat + 2 * s.block.resv.toNat + 4 * s.block.avgv.toNat + 8 * s.block.povf.toNat +
      16 * s.block.w1v.toNat + 32 * s.block.w2v.toNat + 64 * s.block.w3v.toNat + 128 * s.block.w4v.toNat +
      256 * s.block.d1v.toNat + 512 * s.block.d2v.toNat + 4096 * s.block.ecode.toNat) ∧
  (∀ d : Data, exec (.rdStatus d) State.reset = .next (State.reset.answeredWith State.reset.block ⟨.ok, 0⟩)) ∧
  (∀ (d : Data) (s : State), exec (.rdCmd d) s = .next (s.answeredWith s.block ⟨.ok, 0⟩)) ∧
  (∀ (d : Data) (s : State),
    exec (.wrRo01 0x01 d) s = .next (s.answeredWith (s.block.refusedAs 2) ⟨.ro, 0⟩))

/-- Reads ignore DATA and writes to input registers ignore DATA[31:16] (20_memory.md R46, 30_encoding.md R56). -/
def Obligations.UnusedDataBitsAreIgnored : Prop :=
  (∀ (a : Addr) (d e : Data) (s : State),
    exec (decode (txnWord false a d)) s = exec (decode (txnWord false a e)) s) ∧
  (∀ (a : Addr) (d e : Data) (s : State), 2 ≤ a.toNat → a.toNat ≤ 7 → d.toNat % 65536 = e.toNat % 65536 →
    exec (decode (txnWord true a d)) s = exec (decode (txnWord true a e)) s)

/-- Reads change nothing and repeat; writing an input register twice is writing it once; commands are not idempotent (R48). -/
def Obligations.ReadsRepeatAndWritesAreIdempotent : Prop :=
  (∀ (a : Addr) (d : Data) (s : State), a.toNat ≤ 25 →
    ∃ t : State, exec (decode (txnWord false a d)) s = .next t ∧
      t = s.answeredWith s.block ⟨.ok, s.block.readWord a⟩ ∧
      exec (decode (txnWord false a d)) t = .next (t.answeredWith s.block ⟨.ok, s.block.readWord a⟩)) ∧
  (∀ (a : Addr) (d : Data) (s : State), 25 < a.toNat →
    exec (decode (txnWord false a d)) s = .next (s.answeredWith (s.block.refusedAs 1) ⟨.badAddr, 0⟩)) ∧
  (∀ (a : Addr) (d : Data) (s : State), 2 ≤ a.toNat → a.toNat ≤ 7 →
    ∃ t u : State, exec (decode (txnWord true a d)) s = .next t ∧ exec (decode (txnWord true a d)) t = .next u ∧
      u.block = t.block) ∧
  (∃ s t u : State, exec .acc s = .next t ∧ exec .acc t = .next u ∧ u.block ≠ t.block)

/-- CAL with all four words written loads C1 to C6 by the six formulas and becomes Ready (R75). -/
def Obligations.CalExtractsTheCoefficients : Prop :=
  ∀ s : State, s.block.calv = false → s.block.w1v = true → s.block.w2v = true → s.block.w3v = true → s.block.w4v = true →
    ∃ t, exec .cal s = .next t ∧ t = s.answeredWith t.block ⟨.ok, 0⟩ ∧
      t.block = { s.block with
        c1 := t.block.c1, c2 := t.block.c2, c3 := t.block.c3, c4 := t.block.c4, c5 := t.block.c5, c6 := t.block.c6, calv := true } ∧
      t.block.c1.toNat = (s.block.w1.toNat >>> 3) &&& 0x1FFF ∧
      t.block.c2.toNat = ((s.block.w1.toNat &&& 0x7) <<< 10) ||| ((s.block.w2.toNat >>> 6) &&& 0x3FF) ∧
      t.block.c3.toNat = (s.block.w3.toNat >>> 6) &&& 0x3FF ∧
      t.block.c5.toNat = ((s.block.w2.toNat &&& 0x3F) <<< 6) ||| (s.block.w3.toNat &&& 0x3F) ∧
      t.block.c4.toNat = (s.block.w4.toNat >>> 7) &&& 0x7FF ∧
      t.block.c6.toNat = s.block.w4.toNat &&& 0x7F

/-- CAL answers E_RECAL once calibrated and E_NOWORDS while a word is missing (R76). -/
def Obligations.CalIsRefusedTwiceOrEarly : Prop :=
  ∀ s : State,
    (s.block.calv = true → exec .cal s = .next (s.answeredWith (s.block.refusedAs 5) ⟨.recal, 0⟩)) ∧
    (s.block.calv = false →
      ¬ (s.block.w1v = true ∧ s.block.w2v = true ∧ s.block.w3v = true ∧ s.block.w4v = true) →
      exec .cal s = .next (s.answeredWith (s.block.refusedAs 4) ⟨.noWords, 0⟩))

/-- After CAL the four words can be recovered from the coefficients, and the unreachable bits are 0 (R77). -/
def Obligations.WordsAreRecoverableFromCoefficients : Prop :=
  ∀ s : State, s.block.calv = false → s.block.w1v = true → s.block.w2v = true → s.block.w3v = true → s.block.w4v = true →
    ∃ t, exec .cal s = .next t ∧
      (∀ j, j < 13 → t.block.c1.getLsbD j = s.block.w1.getLsbD (j + 3)) ∧
      (∀ j, j < 3 → t.block.c2.getLsbD (j + 10) = s.block.w1.getLsbD j) ∧
      (∀ j, j < 10 → t.block.c2.getLsbD j = s.block.w2.getLsbD (j + 6)) ∧
      (∀ j, j < 6 → t.block.c5.getLsbD (j + 6) = s.block.w2.getLsbD j) ∧
      (∀ j, j < 10 → t.block.c3.getLsbD j = s.block.w3.getLsbD (j + 6)) ∧
      (∀ j, j < 6 → t.block.c5.getLsbD j = s.block.w3.getLsbD j) ∧
      (∀ j, j < 9 → t.block.c4.getLsbD j = s.block.w4.getLsbD (j + 7)) ∧
      (∀ j, j < 7 → t.block.c6.getLsbD j = s.block.w4.getLsbD j) ∧
      t.block.c2.getLsbD 13 = false ∧ t.block.c4.getLsbD 10 = false ∧ t.block.c4.getLsbD 9 = false ∧
      s.block.w1.toNat = (t.block.c1.toNat <<< 3) ||| (t.block.c2.toNat >>> 10) ∧
      s.block.w2.toNat = ((t.block.c2.toNat &&& 0x3FF) <<< 6) ||| (t.block.c5.toNat >>> 6) ∧
      s.block.w3.toNat = (t.block.c3.toNat <<< 6) ||| (t.block.c5.toNat &&& 0x3F) ∧
      s.block.w4.toNat = (t.block.c4.toNat <<< 7) ||| t.block.c6.toNat

/-- CAL gives coefficients in the formula ranges, and every combination in them is reached (R78). -/
def Obligations.CoefficientRangesAreExact : Prop :=
  (∀ s : State, s.block.calv = false → s.block.w1v = true → s.block.w2v = true → s.block.w3v = true → s.block.w4v = true →
    ∃ t, exec .cal s = .next t ∧ t.block.CoefficientRanges) ∧
  (∀ k1 k2 k3 k4 k5 k6 : Nat, k1 ≤ 8191 → k2 ≤ 8191 → k3 ≤ 1023 → k4 ≤ 511 → k5 ≤ 4095 → k6 ≤ 127 →
    ∃ v1 v2 v3 v4 : BitVec 16, ∀ s : State, s.block.calv = false → s.block.w1v = true → s.block.w2v = true → s.block.w3v = true → s.block.w4v = true →
      s.block.w1 = v1 → s.block.w2 = v2 → s.block.w3 = v3 → s.block.w4 = v4 →
      ∃ t, exec .cal s = .next t ∧ t.block.c1.toNat = k1 ∧ t.block.c2.toNat = k2 ∧ t.block.c3.toNat = k3 ∧
        t.block.c4.toNat = k4 ∧ t.block.c5.toNat = k5 ∧ t.block.c6.toNat = k6)

/-- Once Ready, no transaction changes a coefficient or leaves Ready, and only reset does (10_state.md R17, R20, 41_calibration.md R80). -/
def Obligations.CoefficientsAreFixedOnceReady : Prop :=
  ∀ s t : State, step s = .next t → s.block.calv = true →
    (t.block.calv = true ∧ t.block.c1 = s.block.c1 ∧ t.block.c2 = s.block.c2 ∧ t.block.c3 = s.block.c3 ∧
      t.block.c4 = s.block.c4 ∧ t.block.c5 = s.block.c5 ∧ t.block.c6 = s.block.c6) ∨
    (∃ rest, s.pending = .reset :: rest)

/-- The block becomes Ready by a successful CAL and by nothing else (10_state.md R20). -/
def Obligations.OnlyCalMakesReady : Prop :=
  ∀ (i : Instr) (s t : State), exec i s = .next t → s.block.calv = false → t.block.calv = true →
    i = .cal ∧ s.block.w1v = true ∧ s.block.w2v = true ∧ s.block.w3v = true ∧ s.block.w4v = true

/-- An enabled COMP answers OK, sets RESV and writes only its eight results (42_compensation.md R83, R95, R98). -/
def Obligations.CompWritesItsResultsOnly : Prop :=
  ∀ s : State, s.block.calv = true → s.block.d1v = true → s.block.d2v = true →
    ∃ t, exec .comp s = .next t ∧ t = s.answeredWith t.block ⟨.ok, 0⟩ ∧
      t.block = { s.block with
        ut1 := t.block.ut1, dt := t.block.dt, off := t.block.off, sens := t.block.sens, dt2 := t.block.dt2,
        p := t.block.p, t := t.block.t, povf := t.block.povf, resv := true }

/-- COMP answers E_NOCAL before calibration and E_NOSAMPLE without both sample words (R84). -/
def Obligations.CompIsRefusedWithoutInputs : Prop :=
  ∀ s : State,
    (s.block.calv = false → exec .comp s = .next (s.answeredWith (s.block.refusedAs 6) ⟨.noCal, 0⟩)) ∧
    (s.block.calv = true → s.block.d1v = false ∨ s.block.d2v = false →
      exec .comp s = .next (s.answeredWith (s.block.refusedAs 7) ⟨.noSample, 0⟩))

/-- COMP leaves UT1 = 8*C5 + 10000 and DT = D2 - UT1, in their ranges (R85, R86). -/
def Obligations.CompBaselineAndDelta : Prop :=
  (∀ s : State, s.block.calv = true → s.block.d1v = true → s.block.d2v = true →
    ∃ t, exec .comp s = .next t ∧
      t.block.ut1.toInt = 8 * (s.block.c5.toNat : Int) + 10000 ∧
      10000 ≤ t.block.ut1.toInt ∧ t.block.ut1.toInt ≤ 42760 ∧
      t.block.dt.toInt = (s.block.d2.toNat : Int) - t.block.ut1.toInt ∧
      -42760 ≤ t.block.dt.toInt ∧ t.block.dt.toInt ≤ 55535 ∧
      (t.block.dt.toInt < 0 ↔ (s.block.d2.toNat : Int) < t.block.ut1.toInt) ∧
      (s.block.d2 = 0 → s.block.c5 = 4095 → t.block.dt.toInt = -42760) ∧
      (s.block.d2 = 65535 → s.block.c5 = 0 → t.block.dt.toInt = 55535))

/-- COMP leaves OFF = C2 + floor((C4 - 250)*DT / 4096) + 10000, in its range and positive (R87). -/
def Obligations.CompOffset : Prop :=
  ∀ s : State, s.block.calv = true → s.block.d1v = true → s.block.d2v = true →
    ∃ t, exec .comp s = .next t ∧
      t.block.off.toInt =
        (s.block.c2.toNat : Int) + ((s.block.c4.toNat : Int) - 250) * t.block.dt.toInt / 4096 + 10000 ∧
      (s.block.CoefficientRanges →
        (-250 ≤ (s.block.c4.toNat : Int) - 250 ∧ (s.block.c4.toNat : Int) - 250 ≤ 261) ∧
        (-13883750 ≤ ((s.block.c4.toNat : Int) - 250) * t.block.dt.toInt ∧
          ((s.block.c4.toNat : Int) - 250) * t.block.dt.toInt ≤ 14494635) ∧
        (-3390 ≤ ((s.block.c4.toNat : Int) - 250) * t.block.dt.toInt / 4096 ∧
          ((s.block.c4.toNat : Int) - 250) * t.block.dt.toInt / 4096 ≤ 3538) ∧
        6610 ≤ t.block.off.toInt ∧ t.block.off.toInt ≤ 21729)

/-- COMP leaves SENS = C1/2 + floor((C3 + 200)*DT / 8192) + 3000, in its range (R88). -/
def Obligations.CompSensitivity : Prop :=
  ∀ s : State, s.block.calv = true → s.block.d1v = true → s.block.d2v = true →
    ∃ t, exec .comp s = .next t ∧
      t.block.sens.toInt =
        (s.block.c1.toNat : Int) / 2 + ((s.block.c3.toNat : Int) + 200) * t.block.dt.toInt / 8192 + 3000 ∧
      (0 ≤ (s.block.c1.toNat : Int) / 2 ∧ (s.block.c1.toNat : Int) / 2 ≤ 4095) ∧
      (200 ≤ (s.block.c3.toNat : Int) + 200 ∧ (s.block.c3.toNat : Int) + 200 ≤ 1223) ∧
      (-52295480 ≤ ((s.block.c3.toNat : Int) + 200) * t.block.dt.toInt ∧
        ((s.block.c3.toNat : Int) + 200) * t.block.dt.toInt ≤ 67919305) ∧
      (-6384 ≤ ((s.block.c3.toNat : Int) + 200) * t.block.dt.toInt / 8192 ∧
        ((s.block.c3.toNat : Int) + 200) * t.block.dt.toInt / 8192 ≤ 8290) ∧
      -3384 ≤ t.block.sens.toInt ∧ t.block.sens.toInt ≤ 15385 ∧
      (s.block.c1 = 0 → s.block.c3 = 1023 → t.block.dt.toInt = -42760 → t.block.sens.toInt = -3384)

/-- COMP leaves P = px mod 65536 and POVF, where px = floor(SENS*(D1 - OFF) / 4096) + 1000 (R90). -/
def Obligations.CompPressure : Prop :=
  ∀ s : State, s.block.calv = true → s.block.d1v = true → s.block.d2v = true →
    ∃ t, exec .comp s = .next t ∧
      ∀ px : Int, px = t.block.sens.toInt * ((s.block.d1.toNat : Int) - t.block.off.toInt) / 4096 + 1000 →
        (t.block.p.toNat : Int) = px % 65536 ∧
        (t.block.povf = true ↔ px < 0 ∨ 65535 < px) ∧
        (t.block.povf = false → (t.block.p.toNat : Int) = px) ∧
        (t.block.povf = true → (t.block.p.toNat : Int) ≠ px ∧ ∃ m : Int, (t.block.p.toNat : Int) = px + 65536 * m) ∧
        (px = -14230 → t.block.p.toNat = 51306) ∧ (px = 118589 → t.block.p.toNat = 53053)

/-- The full-precision pressure product stays within 31 signed bits and px in [-80617, 222328], both ends reached (R89). -/
def Obligations.CompFullPressureRange : Prop :=
  ∀ s : State, s.block.calv = true → s.block.d1v = true → s.block.d2v = true → s.block.CoefficientRanges →
    ∃ t, exec .comp s = .next t ∧
      ∀ f m px : Int, f = (s.block.d1.toNat : Int) - t.block.off.toInt → m = t.block.sens.toInt * f →
        px = m / 4096 + 1000 →
        (-21729 ≤ f ∧ f ≤ 58925) ∧ (-334300665 ≤ m ∧ m ≤ 906561125) ∧ (-80617 ≤ px ∧ px ≤ 222328) ∧
        (s.block.c1 = 8191 → s.block.c2 = 0 → s.block.c3 = 1023 → s.block.c4 = 0 → s.block.c5 = 0 →
          s.block.d1 = 65535 → s.block.d2 = 65535 → m = 906561125) ∧
        (s.block.c1 = 8191 → s.block.c2 = 8191 → s.block.c3 = 1023 → s.block.c4 = 511 → s.block.c5 = 0 →
          s.block.d1 = 0 → s.block.d2 = 65535 → m = -334300665) ∧
        (t.block.p.toNat : Int) = px % 65536

/-- COMP leaves DT2 = DT - floor(floor(DT/128)^2 / 8), equal to DT exactly for DT in -256..383 (R92). -/
def Obligations.CompSecondOrderDelta : Prop :=
  ∀ s : State, s.block.calv = true → s.block.d1v = true → s.block.d2v = true →
    ∃ t, exec .comp s = .next t ∧
      ∀ q : Int, q = t.block.dt.toInt / 128 →
        t.block.dt2.toInt = t.block.dt.toInt - q * q / 8 ∧ t.block.dt2.toInt ≤ t.block.dt.toInt ∧
        (-56788 ≤ t.block.dt2.toInt ∧ t.block.dt2.toInt ≤ 32099) ∧
        (-335 ≤ q ∧ q ≤ 433) ∧ (0 ≤ q * q ∧ q * q ≤ 187489) ∧ (0 ≤ q * q / 8 ∧ q * q / 8 ≤ 23436) ∧
        (t.block.dt2 = t.block.dt ↔ q * q < 8) ∧
        (q * q < 8 ↔ -2 ≤ q ∧ q ≤ 2) ∧
        (q * q < 8 ↔ -256 ≤ t.block.dt.toInt ∧ t.block.dt.toInt ≤ 383) ∧
        (¬ (-256 ≤ t.block.dt.toInt ∧ t.block.dt.toInt ≤ 383) → t.block.dt2.toInt < t.block.dt.toInt) ∧
        (t.block.dt.toInt = -257 → t.block.dt2.toInt = -258)

/-- The spec's remark that DT2 is non-decreasing in DT over the reachable range (expected to fail) (42_compensation.md R91 (its remark on monotonicity)). -/
def Obligations.SecondOrderDeltaIsMonotone : Prop :=
  ∀ dt dt' : Int, -42760 ≤ dt → dt ≤ dt' → dt' ≤ 55535 → stageDt2 dt ≤ stageDt2 dt'

/-- COMP leaves T = 200 + floor(DT2*(C6 + 100) / 2048), in [-6095, 3757] (R93). -/
def Obligations.CompTemperature : Prop :=
  ∀ s : State, s.block.calv = true → s.block.d1v = true → s.block.d2v = true →
    ∃ t, exec .comp s = .next t ∧
      t.block.t.toInt = 200 + t.block.dt2.toInt * ((s.block.c6.toNat : Int) + 100) / 2048 ∧
      (100 ≤ (s.block.c6.toNat : Int) + 100 ∧ (s.block.c6.toNat : Int) + 100 ≤ 227) ∧
      (-12890876 ≤ t.block.dt2.toInt * ((s.block.c6.toNat : Int) + 100) ∧
        t.block.dt2.toInt * ((s.block.c6.toNat : Int) + 100) ≤ 7286473) ∧
      (-6295 ≤ t.block.dt2.toInt * ((s.block.c6.toNat : Int) + 100) / 2048 ∧
        t.block.dt2.toInt * ((s.block.c6.toNat : Int) + 100) / 2048 ≤ 3557) ∧
      -6095 ≤ t.block.t.toInt ∧ t.block.t.toInt ≤ 3757

/-- The temperature is at most the first-order estimate, equal where the correction vanishes, less for some inputs (R99). -/
def Obligations.TemperatureIsAtMostFirstOrder : Prop :=
  ∀ s : State, s.block.calv = true → s.block.d1v = true → s.block.d2v = true →
    ∃ t, exec .comp s = .next t ∧
      t.block.t.toInt = 200 + t.block.dt2.toInt * ((t.block.c6.toNat : Int) + 100) / 2048 ∧
      ∀ t1 : Int, t1 = 200 + t.block.dt.toInt * ((s.block.c6.toNat : Int) + 100) / 2048 →
        t.block.t.toInt ≤ t1 ∧
        (-256 ≤ t.block.dt.toInt → t.block.dt.toInt ≤ 383 → t.block.t.toInt = t1) ∧
        (s.block.c6 = 51 → t.block.dt.toInt = 587 →
          t.block.dt2.toInt = 585 ∧ t1 = 243 ∧ t.block.t.toInt = 243) ∧
        (s.block.c6 = 51 → t.block.dt.toInt = 5000 →
          t.block.dt2.toInt = 4810 ∧ t1 = 568 ∧ t.block.t.toInt = 554)

/-- COMP depends on D1, D2 and C1 to C6 only, and doing it twice is doing it once (R98). -/
def Obligations.CompIsAPureFunction : Prop :=
  (∀ s r : State, s.block.calv = true → s.block.d1v = true → s.block.d2v = true →
    r.block.calv = true → r.block.d1v = true → r.block.d2v = true →
    r.block.d1 = s.block.d1 → r.block.d2 = s.block.d2 → r.block.c1 = s.block.c1 → r.block.c2 = s.block.c2 →
    r.block.c3 = s.block.c3 → r.block.c4 = s.block.c4 → r.block.c5 = s.block.c5 → r.block.c6 = s.block.c6 →
    ∃ t u, exec .comp s = .next t ∧ exec .comp r = .next u ∧
      t.responses = s.responses ++ [⟨.ok, 0⟩] ∧ u.responses = r.responses ++ [⟨.ok, 0⟩] ∧
      u.block.ut1 = t.block.ut1 ∧ u.block.dt = t.block.dt ∧ u.block.off = t.block.off ∧
      u.block.sens = t.block.sens ∧ u.block.dt2 = t.block.dt2 ∧ u.block.p = t.block.p ∧ u.block.t = t.block.t ∧
      u.block.povf = t.block.povf) ∧
  (∀ s : State, s.block.calv = true → s.block.d1v = true → s.block.d2v = true →
    ∃ t u, exec .comp s = .next t ∧ exec .comp t = .next u ∧ u.block = t.block)

/-- The 32-bit signed datapath of R96 gives the same registers as unbounded integers (42_compensation.md R96, R97). -/
def Obligations.ThirtyTwoBitsSuffice : Prop :=
  ∀ b : Block, b.compensate32 = b.compensate

/-- COMP at DT = 0 and at D1 = OFF gives the exact values the rules give (42_compensation.md R103). -/
def Obligations.CompCornerCases : Prop :=
  ∀ s : State, s.block.calv = true → s.block.d1v = true → s.block.d2v = true →
    ∃ t, exec .comp s = .next t ∧
      (t.block.dt.toInt = 0 →
        t.block.off.toInt = (s.block.c2.toNat : Int) + 10000 ∧
        t.block.sens.toInt = (s.block.c1.toNat : Int) / 2 + 3000 ∧ t.block.dt2.toInt = 0 ∧ t.block.t.toInt = 200) ∧
      ((s.block.d1.toNat : Int) = t.block.off.toInt → t.block.p.toNat = 1000 ∧ t.block.povf = false) ∧
      (s.block.c5 = 0 → t.block.ut1.toInt = 10000)

/-- NOP answers OK and changes nothing in any state (R104). -/
def Obligations.NopChangesNothing : Prop :=
  ∀ s : State, exec .nop s = .next (s.answeredWith s.block ⟨.ok, 0⟩)

/-- ACLR answers OK in any state, clears the accumulators and nothing else (R105). -/
def Obligations.AclrClearsTheSums : Prop :=
  ∀ s : State, exec .aclr s =
    .next (s.answeredWith { s.block with accp := 0, acct := 0, accn := 0 } ⟨.ok, 0⟩)

/-- ACC with a result and room adds P, T and 1 to the sums, and is refused otherwise (43_averaging.md R106). -/
def Obligations.AccAddsTheReading : Prop :=
  (∀ s : State, s.block.resv = true → s.block.accn ≠ 65535 →
    ∃ t, exec .acc s = .next t ∧ t = s.answeredWith t.block ⟨.ok, 0⟩ ∧
      t.block = { s.block with accp := t.block.accp, acct := t.block.acct, accn := t.block.accn } ∧
      t.block.accn.toNat = s.block.accn.toNat + 1 ∧
      (s.block.accp.toNat + s.block.p.toNat < 4294967296 →
        t.block.accp.toNat = s.block.accp.toNat + s.block.p.toNat) ∧
      (-2147483648 ≤ s.block.acct.toInt + s.block.t.toInt → s.block.acct.toInt + s.block.t.toInt < 2147483648 →
        t.block.acct.toInt = s.block.acct.toInt + s.block.t.toInt)) ∧
  (∀ s : State, s.block.resv = false →
    exec .acc s = .next (s.answeredWith (s.block.refusedAs 8) ⟨.noRes, 0⟩)) ∧
  (∀ s : State, s.block.resv = true → s.block.accn = 65535 →
    exec .acc s = .next (s.answeredWith (s.block.refusedAs 9) ⟨.accFull, 0⟩))

/-- In every state of the invariant an ACC that is not refused adds exactly, within 32 bits (R107). -/
def Obligations.SumsNeverOverflow : Prop :=
  ∀ s : State, s.block.Inv → s.block.resv = true → s.block.accn ≠ 65535 →
    ∃ t, exec .acc s = .next t ∧ t.block.accn.toNat ≤ 65535 ∧
      t.block.accp.toNat = s.block.accp.toNat + s.block.p.toNat ∧ t.block.accp.toNat ≤ 4294836225 ∧
      t.block.acct.toInt = s.block.acct.toInt + s.block.t.toInt ∧
      -399435825 ≤ t.block.acct.toInt ∧ t.block.acct.toInt ≤ 246214995

/-- AVG leaves the two truncated means, and is refused at count 0 (43_averaging.md R108, R109, 00_scope.md R10). -/
def Obligations.AvgDividesTheSums : Prop :=
  (∀ s : State, s.block.accn ≠ 0 →
    ∃ t, exec .avg s = .next t ∧ t = s.answeredWith t.block ⟨.ok, 0⟩ ∧
      t.block = { s.block with pavg := t.block.pavg, tavg := t.block.tavg, avgv := true } ∧
      (s.block.accp.toNat / s.block.accn.toNat < 65536 →
        t.block.pavg.toNat = s.block.accp.toNat / s.block.accn.toNat) ∧
      (0 ≤ s.block.acct.toInt → s.block.acct.toInt / s.block.accn.toNat < 32768 →
        t.block.tavg.toInt = s.block.acct.toInt / s.block.accn.toNat) ∧
      (s.block.acct.toInt < 0 → -s.block.acct.toInt / s.block.accn.toNat ≤ 32768 →
        t.block.tavg.toInt = -(-s.block.acct.toInt / s.block.accn.toNat))) ∧
  (∀ s : State, s.block.accn = 0 →
    exec .avg s = .next (s.answeredWith (s.block.refusedAs 10) ⟨.div0, 0⟩))

/-- In every state of the invariant AVG leaves the exact means, in range (10_state.md R33, R34). -/
def Obligations.MeansFitTheirRegisters : Prop :=
  ∀ s : State, s.block.Inv → s.block.accn ≠ 0 →
    ∃ t, exec .avg s = .next t ∧
      t.block.pavg.toNat = s.block.accp.toNat / s.block.accn.toNat ∧
      t.block.tavg.toInt = Int.tdiv s.block.acct.toInt s.block.accn.toNat ∧
      -6095 ≤ t.block.tavg.toInt ∧ t.block.tavg.toInt ≤ 3757

/-- TAVG*ACCN differs from ACCT by a remainder with the sign of ACCT and size below ACCN (R110). -/
def Obligations.TemperatureMeanTruncatesTowardZero : Prop :=
  ∀ s : State, s.block.Inv → s.block.accn ≠ 0 →
    ∃ t, exec .avg s = .next t ∧ t.block.pavg.toNat = s.block.accp.toNat / s.block.accn.toNat ∧
      (∃ r : Int, t.block.tavg.toInt * s.block.accn.toNat = s.block.acct.toInt - r ∧
        -(s.block.accn.toNat : Int) < r ∧ r < s.block.accn.toNat ∧
        (0 ≤ s.block.acct.toInt → 0 ≤ r) ∧ (s.block.acct.toInt ≤ 0 → r ≤ 0)) ∧
      (s.block.accn = 2 → s.block.acct.toInt = -3 → t.block.tavg.toInt = -1) ∧
      (s.block.accn = 2 → s.block.acct.toInt = -7 → t.block.tavg.toInt = -3) ∧
      (s.block.accn = 2 → s.block.acct.toInt = 7 → t.block.tavg.toInt = 3)

/-- The mean of k equal readings is that reading, for negative temperatures too (43_averaging.md R111). -/
def Obligations.MeanOfEqualReadings : Prop :=
  ∀ (s : State) (p t : BitVec 16), s.block.accn ≠ 0 → s.block.accp.toNat = s.block.accn.toNat * p.toNat →
    s.block.acct.toInt = s.block.accn.toNat * t.toInt →
    ∃ u, exec .avg s = .next u ∧ u.block.pavg = p ∧ u.block.tavg = t

/-- The invariants hold at reset (10_state.md R38, 70_reset_and_hazards.md R148). -/
def Obligations.InvariantsHoldAtReset : Prop :=
  State.reset.block.Inv ∧ State.reset.block.Coherent

/-- Every step keeps the invariant of R38 (10_state.md R38). -/
def Obligations.EveryStepKeepsTheInvariant : Prop :=
  ∀ s t : State, s.block.Inv → step s = .next t → t.block.Inv

/-- Every step keeps the relations between pipeline registers, temperature and coefficients (42_compensation.md R85, R87, R88, R91, R93, R99, 41_calibration.md R80). -/
def Obligations.EveryStepKeepsTheFormulas : Prop :=
  ∀ s t : State, s.block.Coherent → step s = .next t → t.block.Coherent

/-- Each register and flag is changed only by the transactions R13 names as its writers (10_state.md R13, 40_host_access.md R70). -/
def Obligations.OnlyItsWriterChangesARegister : Prop :=
  ∀ (i : Instr) (s t : State), exec i s = .next t →
    ((∀ d, i ≠ .wrW1 d) → t.block.w1 = s.block.w1 ∧ t.block.w1v = s.block.w1v) ∧
    ((∀ d, i ≠ .wrW2 d) → t.block.w2 = s.block.w2 ∧ t.block.w2v = s.block.w2v) ∧
    ((∀ d, i ≠ .wrW3 d) → t.block.w3 = s.block.w3 ∧ t.block.w3v = s.block.w3v) ∧
    ((∀ d, i ≠ .wrW4 d) → t.block.w4 = s.block.w4 ∧ t.block.w4v = s.block.w4v) ∧
    ((∀ d, i ≠ .wrD1 d) → t.block.d1 = s.block.d1 ∧ t.block.d1v = s.block.d1v) ∧
    ((∀ d, i ≠ .wrD2 d) → t.block.d2 = s.block.d2 ∧ t.block.d2v = s.block.d2v) ∧
    (i ≠ .cal → t.block.c1 = s.block.c1 ∧ t.block.c2 = s.block.c2 ∧ t.block.c3 = s.block.c3 ∧
      t.block.c4 = s.block.c4 ∧ t.block.c5 = s.block.c5 ∧ t.block.c6 = s.block.c6 ∧ t.block.calv = s.block.calv) ∧
    (i ≠ .comp → t.block.ut1 = s.block.ut1 ∧ t.block.dt = s.block.dt ∧ t.block.off = s.block.off ∧
      t.block.sens = s.block.sens ∧ t.block.dt2 = s.block.dt2 ∧ t.block.p = s.block.p ∧ t.block.t = s.block.t ∧
      t.block.povf = s.block.povf ∧ t.block.resv = s.block.resv) ∧
    (i ≠ .acc → i ≠ .aclr → t.block.accp = s.block.accp ∧ t.block.acct = s.block.acct ∧
      t.block.accn = s.block.accn) ∧
    (i ≠ .avg → t.block.pavg = s.block.pavg ∧ t.block.tavg = s.block.tavg ∧ t.block.avgv = s.block.avgv)

/-- A valid flag that is 1 stays 1 until reset (10_state.md R16, R19, R20, R29, R35, 70_reset_and_hazards.md R147). -/
def Obligations.ValidFlagsAreClearedOnlyByReset : Prop :=
  ∀ s t : State, step s = .next t → (∀ rest, s.pending ≠ .reset :: rest) →
    (s.block.w1v = true → t.block.w1v = true) ∧ (s.block.w2v = true → t.block.w2v = true) ∧
    (s.block.w3v = true → t.block.w3v = true) ∧ (s.block.w4v = true → t.block.w4v = true) ∧
    (s.block.d1v = true → t.block.d1v = true) ∧ (s.block.d2v = true → t.block.d2v = true) ∧
    (s.block.calv = true → t.block.calv = true) ∧ (s.block.resv = true → t.block.resv = true) ∧
    (s.block.avgv = true → t.block.avgv = true)

/-- INIT from an uninitialized block ends Ready when all exchanges succeed and Uninitialized when one fails (44_host_sequences.md R120, R125). -/
def Obligations.InitMakesReadyOrLeavesUninitialized : Prop :=
  (∀ (s : State) (v1 v2 v3 v4 : BitVec 16), s.pending = [] → s.block.calv = false →
    ∃ t : State, core.run 5 (s.present
        (initSequence true [.word v1, .word v2, .word v3, .word v4]).events) = .next t ∧
      t.block.calv = true ∧ t.block.w1 = v1 ∧ t.block.w2 = v2 ∧ t.block.w3 = v3 ∧ t.block.w4 = v4 ∧
      t.responses = s.responses ++ [⟨.ok, 0⟩, ⟨.ok, 0⟩, ⟨.ok, 0⟩, ⟨.ok, 0⟩, ⟨.ok, 0⟩]) ∧
  (∀ (s : State) (ok : Bool) (xs : List Exchange) (k : Nat), s.pending = [] → s.block.calv = false →
    (initSequence ok xs).ended ≠ .done →
    ∃ t : State, core.run k (s.present (initSequence ok xs).events) = .next t ∧ t.block.calv = false)

/-- READ_ONCE on a Ready block, both exchanges succeeding, answers the compensated pressure and temperature of the two words fetched (44_host_sequences.md R121). -/
def Obligations.ReadOnceAnswersTheReading : Prop :=
  ∀ (s : State) (tw pw : BitVec 16) (b : Block), s.pending = [] → s.block.calv = true →
    b = { s.block with d1 := pw, d2 := tw } →
    ∃ (t : State) (rp rt : Data),
      core.run 5 (s.present (runActions readOnceActions [.word tw, .word pw]).events) = .next t ∧
      t.pending = [] ∧
      t.responses = s.responses ++ [⟨.ok, 0⟩, ⟨.ok, 0⟩, ⟨.ok, 0⟩, ⟨.ok, rp⟩, ⟨.ok, rt⟩] ∧
      (rp.toNat : Int) = b.valPx % 65536 ∧ rt.toInt = b.valT

/-- READ_AVG(k) on a Ready block answers the truncated means of the k compensated readings (44_host_sequences.md R122). -/
def Obligations.ReadAvgAnswersTheMeans : Prop :=
  ∀ (s : State) (samples : List (BitVec 16 × BitVec 16)), s.pending = [] → s.block.calv = true →
    samples ≠ [] → samples.length ≤ 65535 →
    ∃ (t : State) (earlier : List Response) (rp rt : Data),
      core.run (4 * samples.length + 4) (s.present (runActions (readAvgActions samples.length)
        (samples.flatMap (fun x => [.word x.1, .word x.2]))).events) = .next t ∧
      t.pending = [] ∧ t.responses = s.responses ++ earlier ++ [⟨.ok, rp⟩, ⟨.ok, rt⟩] ∧
      (∀ r ∈ earlier, r = ⟨.ok, 0⟩) ∧
      rp.toNat = (samples.map (fun x =>
        (({ s.block with d1 := x.2, d2 := x.1 } : Block).valPx % 65536).toNat)).sum / samples.length ∧
      rt.toInt = Int.tdiv ((samples.map (fun x => ({ s.block with d1 := x.2, d2 := x.1 } : Block).valT)).sum)
        samples.length

/-- READ_AVG(0) answers E_DIV0 and leaves the means (the two reads after it are the model's choice, log 15) (44_host_sequences.md R123, 43_averaging.md R109). -/
def Obligations.ReadAvgOfNoneIsRefused : Prop :=
  ∀ s : State, s.pending = [] →
    ∃ (t : State) (rp rt : Data), core.run 4 (s.present (runActions (readAvgActions 0) []).events) = .next t ∧
      t.responses = s.responses ++ [⟨.ok, 0⟩, ⟨.div0, 0⟩, ⟨.ok, rp⟩, ⟨.ok, rt⟩] ∧
      t.block.pavg = s.block.pavg ∧ t.block.tavg = s.block.tavg ∧ t.block.avgv = s.block.avgv

/-- READ_ONCE with an exchange that fails or never returns presents no comp and keeps the previous Reading (44_host_sequences.md R121, R127). -/
def Obligations.ReadOnceStoppedKeepsTheReading : Prop :=
  ∀ (s : State) (xs : List Exchange) (k : Nat), s.pending = [] →
    (runActions readOnceActions xs).ended ≠ .done →
    HostEvent.transaction asmComp ∉ (runActions readOnceActions xs).events ∧
    ∃ t : State, core.run k (s.present (runActions readOnceActions xs).events) = .next t ∧
      t.block = { s.block with d2 := t.block.d2, d2v := t.block.d2v }
end

