-- ==== Sys2Proof/Laws/Encoding.lean ====
section
/-! SUPPORT. The fields of a transaction word, the address map both ways, and which words lie in a row. -/

namespace Sys2Proof

/-- Bit `i` of a transaction word, by the field it lies in (R53). -/
theorem getLsbD_txnWord (w : Bool) (a : Addr) (d : Data) (i : Nat) :
    (txnWord w a d).getLsbD i =
      if i < 32 then d.getLsbD i else if i - 32 < 7 then a.getLsbD (i - 32) else (decide (i - 39 = 0) && w) := by
  have h : (txnWord w a d).getLsbD i = (((BitVec.ofBool w ++ a) ++ d : BitVec (1 + 7 + 32))).getLsbD i := rfl
  rw [h, BitVec.getLsbD_append, BitVec.getLsbD_append, BitVec.getLsbD_ofBool]
  simp only [Nat.sub_sub]

/-- Two transaction words are masked field by field. -/
theorem txnWord_and (w w' : Bool) (a a' : Addr) (d d' : Data) :
    txnWord w a d &&& txnWord w' a' d' = txnWord (w && w') (a &&& a') (d &&& d') := by
  apply BitVec.eq_of_getLsbD_eq
  intro i _
  simp only [BitVec.getLsbD_and, getLsbD_txnWord]
  split
  · rfl
  · split
    · rfl
    · cases decide (i - 39 = 0) <;> simp

@[simp] theorem txnW_txnWord (w : Bool) (a : Addr) (d : Data) : txnW (txnWord w a d) = w := by
  simp [txnW, getLsbD_txnWord, -BitVec.getLsbD_eq_getElem]

@[simp] theorem txnAddr_txnWord (w : Bool) (a : Addr) (d : Data) : txnAddr (txnWord w a d) = a := by
  apply BitVec.eq_of_getLsbD_eq
  intro i hi
  simp only [txnAddr, BitVec.getLsbD_extractLsb', getLsbD_txnWord]
  simp [hi]

@[simp] theorem txnData_txnWord (w : Bool) (a : Addr) (d : Data) : txnData (txnWord w a d) = d := by
  apply BitVec.eq_of_getLsbD_eq
  intro i hi
  simp only [txnData, BitVec.getLsbD_extractLsb', getLsbD_txnWord]
  simp [hi]

/-- A transaction word is the concatenation of its three fields (R53). -/
theorem txnWord_fields (tw : TxnWord) : txnWord (txnW tw) (txnAddr tw) (txnData tw) = tw := by
  apply BitVec.eq_of_getLsbD_eq
  intro i hi
  simp only [getLsbD_txnWord, txnW, txnAddr, txnData, BitVec.getLsbD_extractLsb']
  by_cases h : i < 32
  · simp [h]
  · by_cases h' : i - 32 < 7
    · simp [h, h', show 32 + (i - 32) = i by omega]
    · have : i = 39 := by omega
      subst this
      simp

@[simp] theorem ofAddr_addr (r : RegName) : RegName.ofAddr r.addr = some r := by cases r <;> decide

@[simp] theorem inputOfAddr_addr (r : InputReg) : InputReg.ofAddr r.name.addr = some r := by cases r <;> decide

/-- A reserved address has no name (R41). -/
theorem ofAddr_eq_none (a : Addr) (h : 0x1A ≤ a.toNat) : RegName.ofAddr a = none := by
  revert h; revert a; decide

/-- The row of one address: `W` and `ADDR` in the mask (R64). -/
theorem inRow_oneAddress (w : Bool) (a : Addr) (d : Data) :
    inRow ⟨txnWord w a 0, txnWord true 0x7F 0⟩ (txnWord w a d) = true := by
  have : a &&& 0x7F = a := by revert a; decide
  simp only [inRow, decide_eq_true_eq]
  rw [txnWord_and, this]
  simp

/-- The row of a block of addresses (R64). -/
theorem inRow_addresses (w : Bool) (m lo a : Addr) (d : Data) (h : a &&& m = lo) :
    inRow ⟨txnWord w lo 0, txnWord true m 0⟩ (txnWord w a d) = true := by
  simp only [inRow, decide_eq_true_eq]
  rw [txnWord_and, h]
  simp

/-- Masking off the bits below `k` is shifting them out and back. -/
theorem and_allOnes_shiftLeft (k : Nat) (op : Data) : op &&& (BitVec.allOnes 32 <<< k) = (op >>> k) <<< k := by
  apply BitVec.eq_of_getLsbD_eq
  intro i hi
  simp only [BitVec.getLsbD_and, BitVec.getLsbD_shiftLeft, BitVec.getLsbD_allOnes, BitVec.getLsbD_ushiftRight]
  by_cases h : i < k
  · simp [h]
  · simp [hi, h, show k + (i - k) = i by omega, show i - k < 32 by omega]

/-- The row of the opcodes whose upper bits, from bit `k` on, are `v` (R64). -/
theorem inRow_opcodes (k : Nat) (v op : Data) (hs : op >>> k = v) :
    inRow ⟨txnWord true 0 (v <<< k), txnWord true 0x7F (BitVec.allOnes 32 <<< k)⟩ (txnWord true 0 op) = true := by
  simp only [inRow, decide_eq_true_eq]
  rw [txnWord_and, and_allOnes_shiftLeft, hs]
  simp

/-- The opcodes whose highest set bit is bit `k` are 1 from bit `k` on. -/
theorem shift_of_highestBit (k : Nat) (op : Data) (h : highestBitIs k op = true) : op >>> k = 1 := by
  simp only [highestBitIs, decide_eq_true_eq] at h
  rw [Nat.pow_succ] at h
  apply BitVec.eq_of_toNat_eq
  rw [BitVec.toNat_ushiftRight, Nat.shiftRight_eq_div_pow]
  have hd : op.toNat / 2 ^ k = 1 := Nat.div_eq_of_lt_le (by omega) (by omega)
  rw [hd]; rfl

/-- Opcodes 6 and 7 are 3 from bit 1 on. -/
theorem shift_of_6To7 (op : Data) (h : decide (6 ≤ op.toNat ∧ op.toNat ≤ 7) = true) : op >>> 1 = 3 := by
  simp only [decide_eq_true_eq] at h
  apply BitVec.eq_of_toNat_eq
  rw [BitVec.toNat_ushiftRight, Nat.shiftRight_eq_div_pow]
  simp; omega

end Sys2Proof
end

