-- ==== Sys2Proof/Laws/State.lean ====
section
/-! SUPPORT. For each named update of the state, what every field holds afterwards. -/

namespace Sys2Proof.Machine

/-! The port's fields. -/

@[simp] theorem applyReset_block (s : State) : s.applyReset.block = Block.reset := rfl
@[simp] theorem applyReset_pending (s : State) : s.applyReset.pending = s.pending := rfl
@[simp] theorem applyReset_responses (s : State) : s.applyReset.responses = s.responses := rfl
@[simp] theorem withFetchWord_block (s : State) (n w : Nat) : (s.withFetchWord n w).block = s.block := rfl
@[simp] theorem withFetchWord_pending (s : State) (n w : Nat) :
    (s.withFetchWord n w).pending = .transaction (tableWord n w) :: s.pending := rfl
@[simp] theorem withFetchWord_responses (s : State) (n w : Nat) : (s.withFetchWord n w).responses = s.responses := rfl
@[simp] theorem present_block (s : State) (l : List HostEvent) : (s.present l).block = s.block := rfl
@[simp] theorem present_pending (s : State) (l : List HostEvent) : (s.present l).pending = s.pending ++ l := rfl
@[simp] theorem present_responses (s : State) (l : List HostEvent) : (s.present l).responses = s.responses := rfl

@[simp] theorem answeredWith_block (s : State) (b : Block) (r : Response) : (s.answeredWith b r).block = b := rfl
@[simp] theorem answeredWith_pending (s : State) (b : Block) (r : Response) :
    (s.answeredWith b r).pending = s.pending := rfl
@[simp] theorem answeredWith_responses (s : State) (b : Block) (r : Response) :
    (s.answeredWith b r).responses = s.responses ++ [r] := rfl

/-! A write to an input register. -/

@[simp] theorem storeInput_w1 (b : Block) (v : BitVec 16) :
    b.storeInput .w1 v = { b with w1 := v, w1v := true } := rfl
@[simp] theorem storeInput_w2 (b : Block) (v : BitVec 16) :
    b.storeInput .w2 v = { b with w2 := v, w2v := true } := rfl
@[simp] theorem storeInput_w3 (b : Block) (v : BitVec 16) :
    b.storeInput .w3 v = { b with w3 := v, w3v := true } := rfl
@[simp] theorem storeInput_w4 (b : Block) (v : BitVec 16) :
    b.storeInput .w4 v = { b with w4 := v, w4v := true } := rfl
@[simp] theorem storeInput_d1 (b : Block) (v : BitVec 16) :
    b.storeInput .d1 v = { b with d1 := v, d1v := true } := rfl
@[simp] theorem storeInput_d2 (b : Block) (v : BitVec 16) :
    b.storeInput .d2 v = { b with d2 := v, d2v := true } := rfl

/-! Recording a status (R132). -/

@[simp] theorem record_w1 (b : Block) (c : Status) : (b.record c).w1 = b.w1 := rfl
@[simp] theorem record_w2 (b : Block) (c : Status) : (b.record c).w2 = b.w2 := rfl
@[simp] theorem record_w3 (b : Block) (c : Status) : (b.record c).w3 = b.w3 := rfl
@[simp] theorem record_w4 (b : Block) (c : Status) : (b.record c).w4 = b.w4 := rfl
@[simp] theorem record_d1 (b : Block) (c : Status) : (b.record c).d1 = b.d1 := rfl
@[simp] theorem record_d2 (b : Block) (c : Status) : (b.record c).d2 = b.d2 := rfl
@[simp] theorem record_c1 (b : Block) (c : Status) : (b.record c).c1 = b.c1 := rfl
@[simp] theorem record_c2 (b : Block) (c : Status) : (b.record c).c2 = b.c2 := rfl
@[simp] theorem record_c3 (b : Block) (c : Status) : (b.record c).c3 = b.c3 := rfl
@[simp] theorem record_c4 (b : Block) (c : Status) : (b.record c).c4 = b.c4 := rfl
@[simp] theorem record_c5 (b : Block) (c : Status) : (b.record c).c5 = b.c5 := rfl
@[simp] theorem record_c6 (b : Block) (c : Status) : (b.record c).c6 = b.c6 := rfl
@[simp] theorem record_ut1 (b : Block) (c : Status) : (b.record c).ut1 = b.ut1 := rfl
@[simp] theorem record_dt (b : Block) (c : Status) : (b.record c).dt = b.dt := rfl
@[simp] theorem record_off (b : Block) (c : Status) : (b.record c).off = b.off := rfl
@[simp] theorem record_sens (b : Block) (c : Status) : (b.record c).sens = b.sens := rfl
@[simp] theorem record_dt2 (b : Block) (c : Status) : (b.record c).dt2 = b.dt2 := rfl
@[simp] theorem record_p (b : Block) (c : Status) : (b.record c).p = b.p := rfl
@[simp] theorem record_t (b : Block) (c : Status) : (b.record c).t = b.t := rfl
@[simp] theorem record_accp (b : Block) (c : Status) : (b.record c).accp = b.accp := rfl
@[simp] theorem record_acct (b : Block) (c : Status) : (b.record c).acct = b.acct := rfl
@[simp] theorem record_accn (b : Block) (c : Status) : (b.record c).accn = b.accn := rfl
@[simp] theorem record_pavg (b : Block) (c : Status) : (b.record c).pavg = b.pavg := rfl
@[simp] theorem record_tavg (b : Block) (c : Status) : (b.record c).tavg = b.tavg := rfl
@[simp] theorem record_w1v (b : Block) (c : Status) : (b.record c).w1v = b.w1v := rfl
@[simp] theorem record_w2v (b : Block) (c : Status) : (b.record c).w2v = b.w2v := rfl
@[simp] theorem record_w3v (b : Block) (c : Status) : (b.record c).w3v = b.w3v := rfl
@[simp] theorem record_w4v (b : Block) (c : Status) : (b.record c).w4v = b.w4v := rfl
@[simp] theorem record_d1v (b : Block) (c : Status) : (b.record c).d1v = b.d1v := rfl
@[simp] theorem record_d2v (b : Block) (c : Status) : (b.record c).d2v = b.d2v := rfl
@[simp] theorem record_calv (b : Block) (c : Status) : (b.record c).calv = b.calv := rfl
@[simp] theorem record_resv (b : Block) (c : Status) : (b.record c).resv = b.resv := rfl
@[simp] theorem record_avgv (b : Block) (c : Status) : (b.record c).avgv = b.avgv := rfl
@[simp] theorem record_povf (b : Block) (c : Status) : (b.record c).povf = b.povf := rfl
@[simp] theorem record_ecode (b : Block) (c : Status) :
    (b.record c).ecode = if c ≠ .ok ∧ b.ecode = 0#4 then c.code else b.ecode := rfl

/-! CAL (R75). -/

@[simp] theorem loadCoefficients_w1 (b : Block) : b.loadCoefficients.w1 = b.w1 := rfl
@[simp] theorem loadCoefficients_w2 (b : Block) : b.loadCoefficients.w2 = b.w2 := rfl
@[simp] theorem loadCoefficients_w3 (b : Block) : b.loadCoefficients.w3 = b.w3 := rfl
@[simp] theorem loadCoefficients_w4 (b : Block) : b.loadCoefficients.w4 = b.w4 := rfl
@[simp] theorem loadCoefficients_d1 (b : Block) : b.loadCoefficients.d1 = b.d1 := rfl
@[simp] theorem loadCoefficients_d2 (b : Block) : b.loadCoefficients.d2 = b.d2 := rfl
@[simp] theorem loadCoefficients_c1 (b : Block) : b.loadCoefficients.c1 = extractC1 b.w1 := rfl
@[simp] theorem loadCoefficients_c2 (b : Block) : b.loadCoefficients.c2 = extractC2 b.w1 b.w2 := rfl
@[simp] theorem loadCoefficients_c3 (b : Block) : b.loadCoefficients.c3 = extractC3 b.w3 := rfl
@[simp] theorem loadCoefficients_c4 (b : Block) : b.loadCoefficients.c4 = extractC4 b.w4 := rfl
@[simp] theorem loadCoefficients_c5 (b : Block) : b.loadCoefficients.c5 = extractC5 b.w2 b.w3 := rfl
@[simp] theorem loadCoefficients_c6 (b : Block) : b.loadCoefficients.c6 = extractC6 b.w4 := rfl
@[simp] theorem loadCoefficients_ut1 (b : Block) : b.loadCoefficients.ut1 = b.ut1 := rfl
@[simp] theorem loadCoefficients_dt (b : Block) : b.loadCoefficients.dt = b.dt := rfl
@[simp] theorem loadCoefficients_off (b : Block) : b.loadCoefficients.off = b.off := rfl
@[simp] theorem loadCoefficients_sens (b : Block) : b.loadCoefficients.sens = b.sens := rfl
@[simp] theorem loadCoefficients_dt2 (b : Block) : b.loadCoefficients.dt2 = b.dt2 := rfl
@[simp] theorem loadCoefficients_p (b : Block) : b.loadCoefficients.p = b.p := rfl
@[simp] theorem loadCoefficients_t (b : Block) : b.loadCoefficients.t = b.t := rfl
@[simp] theorem loadCoefficients_accp (b : Block) : b.loadCoefficients.accp = b.accp := rfl
@[simp] theorem loadCoefficients_acct (b : Block) : b.loadCoefficients.acct = b.acct := rfl
@[simp] theorem loadCoefficients_accn (b : Block) : b.loadCoefficients.accn = b.accn := rfl
@[simp] theorem loadCoefficients_pavg (b : Block) : b.loadCoefficients.pavg = b.pavg := rfl
@[simp] theorem loadCoefficients_tavg (b : Block) : b.loadCoefficients.tavg = b.tavg := rfl
@[simp] theorem loadCoefficients_w1v (b : Block) : b.loadCoefficients.w1v = b.w1v := rfl
@[simp] theorem loadCoefficients_w2v (b : Block) : b.loadCoefficients.w2v = b.w2v := rfl
@[simp] theorem loadCoefficients_w3v (b : Block) : b.loadCoefficients.w3v = b.w3v := rfl
@[simp] theorem loadCoefficients_w4v (b : Block) : b.loadCoefficients.w4v = b.w4v := rfl
@[simp] theorem loadCoefficients_d1v (b : Block) : b.loadCoefficients.d1v = b.d1v := rfl
@[simp] theorem loadCoefficients_d2v (b : Block) : b.loadCoefficients.d2v = b.d2v := rfl
@[simp] theorem loadCoefficients_calv (b : Block) : b.loadCoefficients.calv = true := rfl
@[simp] theorem loadCoefficients_resv (b : Block) : b.loadCoefficients.resv = b.resv := rfl
@[simp] theorem loadCoefficients_avgv (b : Block) : b.loadCoefficients.avgv = b.avgv := rfl
@[simp] theorem loadCoefficients_povf (b : Block) : b.loadCoefficients.povf = b.povf := rfl
@[simp] theorem loadCoefficients_ecode (b : Block) : b.loadCoefficients.ecode = b.ecode := rfl

/-! COMP (R95). -/

@[simp] theorem compensate_w1 (b : Block) : b.compensate.w1 = b.w1 := by simp only [Block.compensate]
@[simp] theorem compensate_w2 (b : Block) : b.compensate.w2 = b.w2 := by simp only [Block.compensate]
@[simp] theorem compensate_w3 (b : Block) : b.compensate.w3 = b.w3 := by simp only [Block.compensate]
@[simp] theorem compensate_w4 (b : Block) : b.compensate.w4 = b.w4 := by simp only [Block.compensate]
@[simp] theorem compensate_d1 (b : Block) : b.compensate.d1 = b.d1 := by simp only [Block.compensate]
@[simp] theorem compensate_d2 (b : Block) : b.compensate.d2 = b.d2 := by simp only [Block.compensate]
@[simp] theorem compensate_c1 (b : Block) : b.compensate.c1 = b.c1 := by simp only [Block.compensate]
@[simp] theorem compensate_c2 (b : Block) : b.compensate.c2 = b.c2 := by simp only [Block.compensate]
@[simp] theorem compensate_c3 (b : Block) : b.compensate.c3 = b.c3 := by simp only [Block.compensate]
@[simp] theorem compensate_c4 (b : Block) : b.compensate.c4 = b.c4 := by simp only [Block.compensate]
@[simp] theorem compensate_c5 (b : Block) : b.compensate.c5 = b.c5 := by simp only [Block.compensate]
@[simp] theorem compensate_c6 (b : Block) : b.compensate.c6 = b.c6 := by simp only [Block.compensate]
@[simp] theorem compensate_ut1 (b : Block) :
    b.compensate.ut1 = BitVec.ofInt 32 b.valUt1 := by simp only [Block.compensate]
@[simp] theorem compensate_dt (b : Block) :
    b.compensate.dt = BitVec.ofInt 32 b.valDt := by simp only [Block.compensate]
@[simp] theorem compensate_off (b : Block) :
    b.compensate.off = BitVec.ofInt 32 b.valOff := by simp only [Block.compensate]
@[simp] theorem compensate_sens (b : Block) :
    b.compensate.sens = BitVec.ofInt 32 b.valSens := by simp only [Block.compensate]
@[simp] theorem compensate_dt2 (b : Block) :
    b.compensate.dt2 = BitVec.ofInt 32 b.valDt2 := by simp only [Block.compensate]
@[simp] theorem compensate_p (b : Block) : b.compensate.p = narrowPx b.valPx := by simp only [Block.compensate]
@[simp] theorem compensate_t (b : Block) : b.compensate.t = BitVec.ofInt 16 b.valT := by simp only [Block.compensate]
@[simp] theorem compensate_accp (b : Block) : b.compensate.accp = b.accp := by simp only [Block.compensate]
@[simp] theorem compensate_acct (b : Block) : b.compensate.acct = b.acct := by simp only [Block.compensate]
@[simp] theorem compensate_accn (b : Block) : b.compensate.accn = b.accn := by simp only [Block.compensate]
@[simp] theorem compensate_pavg (b : Block) : b.compensate.pavg = b.pavg := by simp only [Block.compensate]
@[simp] theorem compensate_tavg (b : Block) : b.compensate.tavg = b.tavg := by simp only [Block.compensate]
@[simp] theorem compensate_w1v (b : Block) : b.compensate.w1v = b.w1v := by simp only [Block.compensate]
@[simp] theorem compensate_w2v (b : Block) : b.compensate.w2v = b.w2v := by simp only [Block.compensate]
@[simp] theorem compensate_w3v (b : Block) : b.compensate.w3v = b.w3v := by simp only [Block.compensate]
@[simp] theorem compensate_w4v (b : Block) : b.compensate.w4v = b.w4v := by simp only [Block.compensate]
@[simp] theorem compensate_d1v (b : Block) : b.compensate.d1v = b.d1v := by simp only [Block.compensate]
@[simp] theorem compensate_d2v (b : Block) : b.compensate.d2v = b.d2v := by simp only [Block.compensate]
@[simp] theorem compensate_calv (b : Block) : b.compensate.calv = b.calv := by simp only [Block.compensate]
@[simp] theorem compensate_resv (b : Block) : b.compensate.resv = true := by simp only [Block.compensate]
@[simp] theorem compensate_avgv (b : Block) : b.compensate.avgv = b.avgv := by simp only [Block.compensate]
@[simp] theorem compensate_povf (b : Block) : b.compensate.povf = povfOf b.valPx := by simp only [Block.compensate]
@[simp] theorem compensate_ecode (b : Block) : b.compensate.ecode = b.ecode := by simp only [Block.compensate]

/-! ACLR (R105). -/

@[simp] theorem clearSums_w1 (b : Block) : b.clearSums.w1 = b.w1 := rfl
@[simp] theorem clearSums_w2 (b : Block) : b.clearSums.w2 = b.w2 := rfl
@[simp] theorem clearSums_w3 (b : Block) : b.clearSums.w3 = b.w3 := rfl
@[simp] theorem clearSums_w4 (b : Block) : b.clearSums.w4 = b.w4 := rfl
@[simp] theorem clearSums_d1 (b : Block) : b.clearSums.d1 = b.d1 := rfl
@[simp] theorem clearSums_d2 (b : Block) : b.clearSums.d2 = b.d2 := rfl
@[simp] theorem clearSums_c1 (b : Block) : b.clearSums.c1 = b.c1 := rfl
@[simp] theorem clearSums_c2 (b : Block) : b.clearSums.c2 = b.c2 := rfl
@[simp] theorem clearSums_c3 (b : Block) : b.clearSums.c3 = b.c3 := rfl
@[simp] theorem clearSums_c4 (b : Block) : b.clearSums.c4 = b.c4 := rfl
@[simp] theorem clearSums_c5 (b : Block) : b.clearSums.c5 = b.c5 := rfl
@[simp] theorem clearSums_c6 (b : Block) : b.clearSums.c6 = b.c6 := rfl
@[simp] theorem clearSums_ut1 (b : Block) : b.clearSums.ut1 = b.ut1 := rfl
@[simp] theorem clearSums_dt (b : Block) : b.clearSums.dt = b.dt := rfl
@[simp] theorem clearSums_off (b : Block) : b.clearSums.off = b.off := rfl
@[simp] theorem clearSums_sens (b : Block) : b.clearSums.sens = b.sens := rfl
@[simp] theorem clearSums_dt2 (b : Block) : b.clearSums.dt2 = b.dt2 := rfl
@[simp] theorem clearSums_p (b : Block) : b.clearSums.p = b.p := rfl
@[simp] theorem clearSums_t (b : Block) : b.clearSums.t = b.t := rfl
@[simp] theorem clearSums_accp (b : Block) : b.clearSums.accp = 0#32 := rfl
@[simp] theorem clearSums_acct (b : Block) : b.clearSums.acct = 0#32 := rfl
@[simp] theorem clearSums_accn (b : Block) : b.clearSums.accn = 0#16 := rfl
@[simp] theorem clearSums_pavg (b : Block) : b.clearSums.pavg = b.pavg := rfl
@[simp] theorem clearSums_tavg (b : Block) : b.clearSums.tavg = b.tavg := rfl
@[simp] theorem clearSums_w1v (b : Block) : b.clearSums.w1v = b.w1v := rfl
@[simp] theorem clearSums_w2v (b : Block) : b.clearSums.w2v = b.w2v := rfl
@[simp] theorem clearSums_w3v (b : Block) : b.clearSums.w3v = b.w3v := rfl
@[simp] theorem clearSums_w4v (b : Block) : b.clearSums.w4v = b.w4v := rfl
@[simp] theorem clearSums_d1v (b : Block) : b.clearSums.d1v = b.d1v := rfl
@[simp] theorem clearSums_d2v (b : Block) : b.clearSums.d2v = b.d2v := rfl
@[simp] theorem clearSums_calv (b : Block) : b.clearSums.calv = b.calv := rfl
@[simp] theorem clearSums_resv (b : Block) : b.clearSums.resv = b.resv := rfl
@[simp] theorem clearSums_avgv (b : Block) : b.clearSums.avgv = b.avgv := rfl
@[simp] theorem clearSums_povf (b : Block) : b.clearSums.povf = b.povf := rfl
@[simp] theorem clearSums_ecode (b : Block) : b.clearSums.ecode = b.ecode := rfl

/-! ACC (R106). -/

@[simp] theorem accumulate_w1 (b : Block) : b.accumulate.w1 = b.w1 := rfl
@[simp] theorem accumulate_w2 (b : Block) : b.accumulate.w2 = b.w2 := rfl
@[simp] theorem accumulate_w3 (b : Block) : b.accumulate.w3 = b.w3 := rfl
@[simp] theorem accumulate_w4 (b : Block) : b.accumulate.w4 = b.w4 := rfl
@[simp] theorem accumulate_d1 (b : Block) : b.accumulate.d1 = b.d1 := rfl
@[simp] theorem accumulate_d2 (b : Block) : b.accumulate.d2 = b.d2 := rfl
@[simp] theorem accumulate_c1 (b : Block) : b.accumulate.c1 = b.c1 := rfl
@[simp] theorem accumulate_c2 (b : Block) : b.accumulate.c2 = b.c2 := rfl
@[simp] theorem accumulate_c3 (b : Block) : b.accumulate.c3 = b.c3 := rfl
@[simp] theorem accumulate_c4 (b : Block) : b.accumulate.c4 = b.c4 := rfl
@[simp] theorem accumulate_c5 (b : Block) : b.accumulate.c5 = b.c5 := rfl
@[simp] theorem accumulate_c6 (b : Block) : b.accumulate.c6 = b.c6 := rfl
@[simp] theorem accumulate_ut1 (b : Block) : b.accumulate.ut1 = b.ut1 := rfl
@[simp] theorem accumulate_dt (b : Block) : b.accumulate.dt = b.dt := rfl
@[simp] theorem accumulate_off (b : Block) : b.accumulate.off = b.off := rfl
@[simp] theorem accumulate_sens (b : Block) : b.accumulate.sens = b.sens := rfl
@[simp] theorem accumulate_dt2 (b : Block) : b.accumulate.dt2 = b.dt2 := rfl
@[simp] theorem accumulate_p (b : Block) : b.accumulate.p = b.p := rfl
@[simp] theorem accumulate_t (b : Block) : b.accumulate.t = b.t := rfl
@[simp] theorem accumulate_accp (b : Block) :
    b.accumulate.accp = narrowU 32 (b.accp.toNat + b.p.toNat) (Config.accpBeyond b.accp b.p) := rfl
@[simp] theorem accumulate_acct (b : Block) :
    b.accumulate.acct = narrowS 32 (b.acct.toInt + b.t.toInt) (Config.acctBeyond b.acct b.t) := rfl
@[simp] theorem accumulate_accn (b : Block) : b.accumulate.accn = b.accn + 1#16 := rfl
@[simp] theorem accumulate_pavg (b : Block) : b.accumulate.pavg = b.pavg := rfl
@[simp] theorem accumulate_tavg (b : Block) : b.accumulate.tavg = b.tavg := rfl
@[simp] theorem accumulate_w1v (b : Block) : b.accumulate.w1v = b.w1v := rfl
@[simp] theorem accumulate_w2v (b : Block) : b.accumulate.w2v = b.w2v := rfl
@[simp] theorem accumulate_w3v (b : Block) : b.accumulate.w3v = b.w3v := rfl
@[simp] theorem accumulate_w4v (b : Block) : b.accumulate.w4v = b.w4v := rfl
@[simp] theorem accumulate_d1v (b : Block) : b.accumulate.d1v = b.d1v := rfl
@[simp] theorem accumulate_d2v (b : Block) : b.accumulate.d2v = b.d2v := rfl
@[simp] theorem accumulate_calv (b : Block) : b.accumulate.calv = b.calv := rfl
@[simp] theorem accumulate_resv (b : Block) : b.accumulate.resv = b.resv := rfl
@[simp] theorem accumulate_avgv (b : Block) : b.accumulate.avgv = b.avgv := rfl
@[simp] theorem accumulate_povf (b : Block) : b.accumulate.povf = b.povf := rfl
@[simp] theorem accumulate_ecode (b : Block) : b.accumulate.ecode = b.ecode := rfl

/-! AVG (R108). -/

@[simp] theorem divide_w1 (b : Block) : b.divide.w1 = b.w1 := rfl
@[simp] theorem divide_w2 (b : Block) : b.divide.w2 = b.w2 := rfl
@[simp] theorem divide_w3 (b : Block) : b.divide.w3 = b.w3 := rfl
@[simp] theorem divide_w4 (b : Block) : b.divide.w4 = b.w4 := rfl
@[simp] theorem divide_d1 (b : Block) : b.divide.d1 = b.d1 := rfl
@[simp] theorem divide_d2 (b : Block) : b.divide.d2 = b.d2 := rfl
@[simp] theorem divide_c1 (b : Block) : b.divide.c1 = b.c1 := rfl
@[simp] theorem divide_c2 (b : Block) : b.divide.c2 = b.c2 := rfl
@[simp] theorem divide_c3 (b : Block) : b.divide.c3 = b.c3 := rfl
@[simp] theorem divide_c4 (b : Block) : b.divide.c4 = b.c4 := rfl
@[simp] theorem divide_c5 (b : Block) : b.divide.c5 = b.c5 := rfl
@[simp] theorem divide_c6 (b : Block) : b.divide.c6 = b.c6 := rfl
@[simp] theorem divide_ut1 (b : Block) : b.divide.ut1 = b.ut1 := rfl
@[simp] theorem divide_dt (b : Block) : b.divide.dt = b.dt := rfl
@[simp] theorem divide_off (b : Block) : b.divide.off = b.off := rfl
@[simp] theorem divide_sens (b : Block) : b.divide.sens = b.sens := rfl
@[simp] theorem divide_dt2 (b : Block) : b.divide.dt2 = b.dt2 := rfl
@[simp] theorem divide_p (b : Block) : b.divide.p = b.p := rfl
@[simp] theorem divide_t (b : Block) : b.divide.t = b.t := rfl
@[simp] theorem divide_accp (b : Block) : b.divide.accp = b.accp := rfl
@[simp] theorem divide_acct (b : Block) : b.divide.acct = b.acct := rfl
@[simp] theorem divide_accn (b : Block) : b.divide.accn = b.accn := rfl
@[simp] theorem divide_pavg (b : Block) :
    b.divide.pavg = narrowU 16 (b.accp.toNat / b.accn.toNat) (Config.pavgBeyond b.accp b.accn) := rfl
@[simp] theorem divide_tavg (b : Block) :
    b.divide.tavg = narrowS 16 (tdiv b.acct.toInt b.accn.toNat) (Config.tavgBeyond b.acct b.accn) := rfl
@[simp] theorem divide_w1v (b : Block) : b.divide.w1v = b.w1v := rfl
@[simp] theorem divide_w2v (b : Block) : b.divide.w2v = b.w2v := rfl
@[simp] theorem divide_w3v (b : Block) : b.divide.w3v = b.w3v := rfl
@[simp] theorem divide_w4v (b : Block) : b.divide.w4v = b.w4v := rfl
@[simp] theorem divide_d1v (b : Block) : b.divide.d1v = b.d1v := rfl
@[simp] theorem divide_d2v (b : Block) : b.divide.d2v = b.d2v := rfl
@[simp] theorem divide_calv (b : Block) : b.divide.calv = b.calv := rfl
@[simp] theorem divide_resv (b : Block) : b.divide.resv = b.resv := rfl
@[simp] theorem divide_avgv (b : Block) : b.divide.avgv = true := rfl
@[simp] theorem divide_povf (b : Block) : b.divide.povf = b.povf := rfl
@[simp] theorem divide_ecode (b : Block) : b.divide.ecode = b.ecode := rfl

end Sys2Proof.Machine
end

