-- ==== Sys2Proof/Laws/Ops.lean ====
section
/-! SUPPORT. For each shared operation, what it can do; for `exec` and `step`, the whole of what they can do. -/

namespace Sys2Proof.Machine

/-! Ending a transaction. -/

@[simp] theorem raise_fst (b : Block) (c : Status) : (b.raise c).1 = b.record c := rfl
@[simp] theorem raise_snd (b : Block) (c : Status) : (b.raise c).2 = ⟨c, 0#32⟩ := rfl
@[simp] theorem returnOk_fst (b : Block) (v : Data) : (b.returnOk v).1 = b := rfl
@[simp] theorem returnOk_snd (b : Block) (v : Data) : (b.returnOk v).2 = ⟨.ok, v⟩ := rfl

/-- A transaction is answered by exactly one response, and what was pending stays pending. -/
theorem answer_eq_next (s : State) (r : Block × Response) :
    s.answer r = .next { block := r.1, pending := s.pending, responses := s.responses ++ [r.2] } := rfl

/-- Only a status other than OK has a code other than 0 (R131). -/
theorem code_eq_zero_iff (c : Status) : c.code = 0#4 ↔ c = .ok := by cases c <;> decide

/-- No code is above 10 (R131). -/
theorem code_le (c : Status) : c.code.toNat ≤ 10 := by cases c <;> decide

@[simp] theorem record_ok (b : Block) : b.record .ok = b := by simp [Block.record]

/-- Once a code is recorded, recording changes nothing (R132). -/
theorem record_of_recorded (b : Block) (c : Status) (h : b.ecode ≠ 0#4) : b.record c = b := by simp [Block.record, h]

/-! What each operation on a transaction can answer. -/

theorem refuseWrite_cases (b : Block) (a : Addr) : b.refuseWrite a = b.raise .ro ∨ b.refuseWrite a = b.raise .badAddr := by
  unfold Block.refuseWrite; split <;> simp

theorem runCal_cases (b : Block) :
    (b.calv = true ∧ b.runCal = b.raise .recal) ∨
    (b.calv = false ∧ b.wordsWritten = false ∧ b.runCal = b.raise .noWords) ∨
    (b.calv = false ∧ b.wordsWritten = true ∧ b.runCal = b.loadCoefficients.returnOk 0#32) := by
  cases h : b.calv <;> cases h' : b.wordsWritten <;> simp [Block.runCal, h, h']

theorem runComp_cases (b : Block) :
    (b.calv = false ∧ b.runComp = b.raise .noCal) ∨
    (b.calv = true ∧ b.sampleWritten = false ∧ b.runComp = b.raise .noSample) ∨
    (b.calv = true ∧ b.sampleWritten = true ∧ b.runComp = b.compensate.returnOk 0#32) := by
  cases h : b.calv <;> cases h' : b.sampleWritten <;> simp [Block.runComp, h, h']

theorem runAcc_cases (b : Block) :
    (b.resv = false ∧ b.runAcc = b.raise .noRes) ∨
    (b.resv = true ∧ b.accn = 65535#16 ∧ b.runAcc = b.raise .accFull) ∨
    (b.resv = true ∧ b.accn ≠ 65535#16 ∧ b.runAcc = b.accumulate.returnOk 0#32) := by
  cases h : b.resv <;> by_cases h' : b.accn = 65535#16 <;> simp [Block.runAcc, h, h']

theorem runAvg_cases (b : Block) :
    (b.accn = 0#16 ∧ b.runAvg = b.raise .div0) ∨ (b.accn ≠ 0#16 ∧ b.runAvg = b.divide.returnOk 0#32) := by
  by_cases h : b.accn = 0#16 <;> simp [Block.runAvg, h]

/-! The host's access to the registers. -/

@[simp] theorem readWord_addr (b : Block) (r : RegName) : b.readWord r.addr = b.readRegister r := by
  simp [Block.readWord]

theorem readWord_reserved (b : Block) (a : Addr) (h : 0x1A ≤ a.toNat) : b.readWord a = 0#32 := by
  simp [Block.readWord, ofAddr_eq_none a h]

theorem zext_toNat {w : Nat} (v : BitVec w) (h : w ≤ 32) : (zext v).toNat = v.toNat := by
  have := v.isLt
  have := Nat.pow_le_pow_right (n := 2) (by decide) h
  simp only [zext, BitVec.toNat_setWidth]
  omega

theorem sext_toInt {w : Nat} (v : BitVec w) (h : w ≤ 32) : (sext v).toInt = v.toInt := by
  simp [sext, BitVec.toInt_signExtend, Nat.min_eq_right h]

@[simp] theorem imm16_toNat (d : Data) : (imm16 d).toNat = d.toNat % 65536 := by simp [imm16]

/-! Arithmetic. -/

/-- `sra a n` is the greatest integer `q` with `q * 2^n <= a` (R9). -/
theorem sra_bounds (a : Int) (n : Nat) : sra a n * 2 ^ n ≤ a ∧ a < (sra a n + 1) * 2 ^ n := by
  have hp : (0 : Int) < 2 ^ n := by positivity
  exact ⟨Int.ediv_mul_le a hp.ne', Int.lt_ediv_add_one_mul_self a hp⟩

theorem narrowU_of_fits {w n : Nat} (x : BitVec w) (h : n < 2 ^ w) : (narrowU w n x).toNat = n := by
  simp [narrowU, h, Nat.mod_eq_of_lt h]

theorem narrowU_of_not_fits {w n : Nat} (x : BitVec w) (h : ¬ n < 2 ^ w) : narrowU w n x = x := by simp [narrowU, h]

/-- An integer in the range of a signed register is held exactly (R8). -/
theorem toInt_ofInt_of_fits {w : Nat} {z : Int} (hw : 0 < w) (h : -(2 ^ (w - 1)) ≤ z ∧ z < 2 ^ (w - 1)) :
    (BitVec.ofInt w z).toInt = z := by
  obtain ⟨v, rfl⟩ : ∃ v, w = v + 1 := ⟨w - 1, by omega⟩
  simp only [Nat.add_sub_cancel] at h
  have hp : (2 : Nat) ^ (v + 1) = 2 * 2 ^ v := by rw [Nat.pow_succ, Nat.mul_comm]
  have hc : ((2 ^ v : Nat) : Int) = 2 ^ v := by simp
  rw [BitVec.toInt_ofInt, hp]
  exact Int.bmod_eq_of_le_mul_two (by push_cast; omega) (by push_cast; omega)

theorem narrowS_of_fits {w : Nat} {z : Int} (x : BitVec w) (hw : 0 < w) (h : -(2 ^ (w - 1)) ≤ z ∧ z < 2 ^ (w - 1)) :
    (narrowS w z x).toInt = z := by
  rw [narrowS, if_pos h, toInt_ofInt_of_fits hw h]

theorem narrowS_of_not_fits {w : Nat} {z : Int} (x : BitVec w) (h : ¬ (-(2 ^ (w - 1)) ≤ z ∧ z < 2 ^ (w - 1))) :
    narrowS w z x = x := if_neg h

/-! The host's events and the step. -/

theorem step_idle (s : State) (h : s.pending = []) : step s = .next s := by simp [step, State.fetch, h]

/-- All a step can do: wait, apply reset, or execute the decoded transaction. -/
theorem step_cases (s : State) :
    (s.pending = [] ∧ step s = .next s) ∨
    (∃ rest, s.pending = .reset :: rest ∧ step s = .next (State.applyReset { s with pending := rest })) ∨
    (∃ tw rest, s.pending = .transaction tw :: rest ∧ step s = exec (decode tw) { s with pending := rest }) := by
  cases h : s.pending with
  | nil => exact .inl ⟨rfl, step_idle s h⟩
  | cons e rest =>
    cases e with
    | reset => exact .inr (.inl ⟨rest, rfl, by simp [step, State.fetch, h]⟩)
    | transaction tw => exact .inr (.inr ⟨tw, rest, rfl, by simp [step, State.fetch, h]⟩)

theorem core_run_zero (s : State) : core.run 0 s = .next s := rfl

theorem core_run_next {s t : State} (k : Nat) (h : step s = .next t) : core.run (k + 1) s = core.run k t := by
  have h' : core.step s = .next t := h
  simp only [Host.Core.run, h']

end Sys2Proof.Machine
end

