-- ==== Sys2Proof/Laws/Exec.lean ====
section
/-! SUPPORT. Everything `exec` can do: an instruction is answered by its effect on the block, and an effect is one of a few
shapes. Proofs cite these instead of unfolding `exec` again. -/

namespace Sys2Proof.Machine

/-- The effect of an instruction on the block, and its response: `exec` without the port. -/
def effect (i : Instr) (b : Block) : Block × Response :=
  match i with
  | .nop => b.runNop
  | .cal => b.runCal
  | .comp => b.runComp
  | .aclr => b.runAclr
  | .acc => b.runAcc
  | .avg => b.runAvg
  | .wrW1 data => b.writeAt .w1 data
  | .wrW2 data => b.writeAt .w2 data
  | .wrW3 data => b.writeAt .w3 data
  | .wrW4 data => b.writeAt .w4 data
  | .wrD1 data => b.writeAt .d1 data
  | .wrD2 data => b.writeAt .d2 data
  | .rdCmd _ => b.readAt .cmd
  | .rdStatus _ => b.readAt .status
  | .rdW1 _ => b.readAt .w1
  | .rdW2 _ => b.readAt .w2
  | .rdW3 _ => b.readAt .w3
  | .rdW4 _ => b.readAt .w4
  | .rdD1 _ => b.readAt .d1
  | .rdD2 _ => b.readAt .d2
  | .rdC1 _ => b.readAt .c1
  | .rdC2 _ => b.readAt .c2
  | .rdC3 _ => b.readAt .c3
  | .rdC4 _ => b.readAt .c4
  | .rdC5 _ => b.readAt .c5
  | .rdC6 _ => b.readAt .c6
  | .rdUt1 _ => b.readAt .ut1
  | .rdDt _ => b.readAt .dt
  | .rdOff _ => b.readAt .off
  | .rdSens _ => b.readAt .sens
  | .rdDt2 _ => b.readAt .dt2
  | .rdP _ => b.readAt .p
  | .rdT _ => b.readAt .t
  | .rdAccp _ => b.readAt .accp
  | .rdAcct _ => b.readAt .acct
  | .rdAccn _ => b.readAt .accn
  | .rdPavg _ => b.readAt .pavg
  | .rdTavg _ => b.readAt .tavg
  | .wrRo01 addr _ => b.refuseWrite addr
  | .wrRo08To0F addr _ => b.refuseWrite addr
  | .wrRo10To17 addr _ => b.refuseWrite addr
  | .wrRo18To19 addr _ => b.refuseWrite addr
  | .wrRsvd1ATo1B addr _ => b.refuseWrite addr
  | .wrRsvd1CTo1F addr _ => b.refuseWrite addr
  | .wrRsvd20To3F addr _ => b.refuseWrite addr
  | .wrRsvd40To7F addr _ => b.refuseWrite addr
  | .rdRsvd1ATo1B _ _ => b.refuseRead
  | .rdRsvd1CTo1F _ _ => b.refuseRead
  | .rdRsvd20To3F _ _ => b.refuseRead
  | .rdRsvd40To7F _ _ => b.refuseRead
  | .cmdRsvd6To7 _ => b.refuseCommand
  | .cmdRsvdB3 _ => b.refuseCommand
  | .cmdRsvdB4 _ => b.refuseCommand
  | .cmdRsvdB5 _ => b.refuseCommand
  | .cmdRsvdB6 _ => b.refuseCommand
  | .cmdRsvdB7 _ => b.refuseCommand
  | .cmdRsvdB8 _ => b.refuseCommand
  | .cmdRsvdB9 _ => b.refuseCommand
  | .cmdRsvdB10 _ => b.refuseCommand
  | .cmdRsvdB11 _ => b.refuseCommand
  | .cmdRsvdB12 _ => b.refuseCommand
  | .cmdRsvdB13 _ => b.refuseCommand
  | .cmdRsvdB14 _ => b.refuseCommand
  | .cmdRsvdB15 _ => b.refuseCommand
  | .cmdRsvdB16 _ => b.refuseCommand
  | .cmdRsvdB17 _ => b.refuseCommand
  | .cmdRsvdB18 _ => b.refuseCommand
  | .cmdRsvdB19 _ => b.refuseCommand
  | .cmdRsvdB20 _ => b.refuseCommand
  | .cmdRsvdB21 _ => b.refuseCommand
  | .cmdRsvdB22 _ => b.refuseCommand
  | .cmdRsvdB23 _ => b.refuseCommand
  | .cmdRsvdB24 _ => b.refuseCommand
  | .cmdRsvdB25 _ => b.refuseCommand
  | .cmdRsvdB26 _ => b.refuseCommand
  | .cmdRsvdB27 _ => b.refuseCommand
  | .cmdRsvdB28 _ => b.refuseCommand
  | .cmdRsvdB29 _ => b.refuseCommand
  | .cmdRsvdB30 _ => b.refuseCommand
  | .cmdRsvdB31 _ => b.refuseCommand

/-- An instruction is answered by its effect. -/
theorem exec_eq_answer (i : Instr) (s : State) : exec i s = s.answer (effect i s.block) := by cases i <;> rfl

/-- What an answer leaves, field by field. -/
theorem answer_eq_next_iff (s t : State) (r : Block × Response) :
    s.answer r = .next t ↔ t.block = r.1 ∧ t.pending = s.pending ∧ t.responses = s.responses ++ [r.2] := by
  cases t
  simp only [State.answer, Host.Outcome.next.injEq, State.mk.injEq]
  exact ⟨fun ⟨a, b, c⟩ => ⟨a.symm, b.symm, c.symm⟩, fun ⟨a, b, c⟩ => ⟨a.symm, b.symm, c.symm⟩⟩

/-- The instruction that writes an input register. -/
def writeInstr (r : InputReg) (d : Data) : Instr :=
  match r with
  | .w1 => .wrW1 d
  | .w2 => .wrW2 d
  | .w3 => .wrW3 d
  | .w4 => .wrW4 d
  | .d1 => .wrD1 d
  | .d2 => .wrD2 d

/-- The shapes an effect can have. -/
theorem effect_cases (i : Instr) (b : Block) :
    (∃ v, effect i b = b.returnOk v) ∨
    (∃ c, c ≠ .ok ∧ effect i b = b.raise c) ∨
    (∃ r d, i = writeInstr r d ∧ effect i b = b.writeAt r d) ∨
    (i = .cal ∧ b.calv = false ∧ b.wordsWritten = true ∧ effect i b = b.loadCoefficients.returnOk 0#32) ∨
    (i = .comp ∧ b.calv = true ∧ b.sampleWritten = true ∧ effect i b = b.compensate.returnOk 0#32) ∨
    (i = .aclr ∧ effect i b = b.clearSums.returnOk 0#32) ∨
    (i = .acc ∧ b.resv = true ∧ b.accn ≠ 65535#16 ∧ effect i b = b.accumulate.returnOk 0#32) ∨
    (i = .avg ∧ b.accn ≠ 0#16 ∧ effect i b = b.divide.returnOk 0#32) := by
  have refuse (c : Status) (hc : c ≠ .ok) (h : effect i b = b.raise c) :
      ∃ c, c ≠ .ok ∧ effect i b = b.raise c := ⟨c, hc, h⟩
  have refusedWrite (a : Addr) (h : effect i b = b.refuseWrite a) : ∃ c, c ≠ .ok ∧ effect i b = b.raise c := by
    rcases refuseWrite_cases b a with e | e
    · exact refuse .ro (by decide) (h.trans e)
    · exact refuse .badAddr (by decide) (h.trans e)
  cases i with
  | nop => exact .inl ⟨0#32, rfl⟩
  | cal =>
    rcases runCal_cases b with ⟨_, e⟩ | ⟨_, _, e⟩ | ⟨hc, hw, e⟩
    · exact .inr (.inl (refuse .recal (by decide) e))
    · exact .inr (.inl (refuse .noWords (by decide) e))
    · exact .inr (.inr (.inr (.inl ⟨rfl, hc, hw, e⟩)))
  | comp =>
    rcases runComp_cases b with ⟨_, e⟩ | ⟨_, _, e⟩ | ⟨hc, hs, e⟩
    · exact .inr (.inl (refuse .noCal (by decide) e))
    · exact .inr (.inl (refuse .noSample (by decide) e))
    · exact .inr (.inr (.inr (.inr (.inl ⟨rfl, hc, hs, e⟩))))
  | aclr => exact .inr (.inr (.inr (.inr (.inr (.inl ⟨rfl, rfl⟩)))))
  | acc =>
    rcases runAcc_cases b with ⟨_, e⟩ | ⟨_, _, e⟩ | ⟨hr, hn, e⟩
    · exact .inr (.inl (refuse .noRes (by decide) e))
    · exact .inr (.inl (refuse .accFull (by decide) e))
    · exact .inr (.inr (.inr (.inr (.inr (.inr (.inl ⟨rfl, hr, hn, e⟩))))))
  | avg =>
    rcases runAvg_cases b with ⟨_, e⟩ | ⟨hn, e⟩
    · exact .inr (.inl (refuse .div0 (by decide) e))
    · exact .inr (.inr (.inr (.inr (.inr (.inr (.inr ⟨rfl, hn, e⟩))))))
  | wrW1 d => exact .inr (.inr (.inl ⟨.w1, d, rfl, rfl⟩))
  | wrW2 d => exact .inr (.inr (.inl ⟨.w2, d, rfl, rfl⟩))
  | wrW3 d => exact .inr (.inr (.inl ⟨.w3, d, rfl, rfl⟩))
  | wrW4 d => exact .inr (.inr (.inl ⟨.w4, d, rfl, rfl⟩))
  | wrD1 d => exact .inr (.inr (.inl ⟨.d1, d, rfl, rfl⟩))
  | wrD2 d => exact .inr (.inr (.inl ⟨.d2, d, rfl, rfl⟩))
  | rdCmd _ => exact .inl ⟨_, rfl⟩
  | rdStatus _ => exact .inl ⟨_, rfl⟩
  | rdW1 _ => exact .inl ⟨_, rfl⟩
  | rdW2 _ => exact .inl ⟨_, rfl⟩
  | rdW3 _ => exact .inl ⟨_, rfl⟩
  | rdW4 _ => exact .inl ⟨_, rfl⟩
  | rdD1 _ => exact .inl ⟨_, rfl⟩
  | rdD2 _ => exact .inl ⟨_, rfl⟩
  | rdC1 _ => exact .inl ⟨_, rfl⟩
  | rdC2 _ => exact .inl ⟨_, rfl⟩
  | rdC3 _ => exact .inl ⟨_, rfl⟩
  | rdC4 _ => exact .inl ⟨_, rfl⟩
  | rdC5 _ => exact .inl ⟨_, rfl⟩
  | rdC6 _ => exact .inl ⟨_, rfl⟩
  | rdUt1 _ => exact .inl ⟨_, rfl⟩
  | rdDt _ => exact .inl ⟨_, rfl⟩
  | rdOff _ => exact .inl ⟨_, rfl⟩
  | rdSens _ => exact .inl ⟨_, rfl⟩
  | rdDt2 _ => exact .inl ⟨_, rfl⟩
  | rdP _ => exact .inl ⟨_, rfl⟩
  | rdT _ => exact .inl ⟨_, rfl⟩
  | rdAccp _ => exact .inl ⟨_, rfl⟩
  | rdAcct _ => exact .inl ⟨_, rfl⟩
  | rdAccn _ => exact .inl ⟨_, rfl⟩
  | rdPavg _ => exact .inl ⟨_, rfl⟩
  | rdTavg _ => exact .inl ⟨_, rfl⟩
  | wrRo01 a _ => exact .inr (.inl (refusedWrite a rfl))
  | wrRo08To0F a _ => exact .inr (.inl (refusedWrite a rfl))
  | wrRo10To17 a _ => exact .inr (.inl (refusedWrite a rfl))
  | wrRo18To19 a _ => exact .inr (.inl (refusedWrite a rfl))
  | wrRsvd1ATo1B a _ => exact .inr (.inl (refusedWrite a rfl))
  | wrRsvd1CTo1F a _ => exact .inr (.inl (refusedWrite a rfl))
  | wrRsvd20To3F a _ => exact .inr (.inl (refusedWrite a rfl))
  | wrRsvd40To7F a _ => exact .inr (.inl (refusedWrite a rfl))
  | rdRsvd1ATo1B _ _ => exact .inr (.inl (refuse .badAddr (by decide) rfl))
  | rdRsvd1CTo1F _ _ => exact .inr (.inl (refuse .badAddr (by decide) rfl))
  | rdRsvd20To3F _ _ => exact .inr (.inl (refuse .badAddr (by decide) rfl))
  | rdRsvd40To7F _ _ => exact .inr (.inl (refuse .badAddr (by decide) rfl))
  | cmdRsvd6To7 _ => exact .inr (.inl (refuse .badCmd (by decide) rfl))
  | cmdRsvdB3 _ => exact .inr (.inl (refuse .badCmd (by decide) rfl))
  | cmdRsvdB4 _ => exact .inr (.inl (refuse .badCmd (by decide) rfl))
  | cmdRsvdB5 _ => exact .inr (.inl (refuse .badCmd (by decide) rfl))
  | cmdRsvdB6 _ => exact .inr (.inl (refuse .badCmd (by decide) rfl))
  | cmdRsvdB7 _ => exact .inr (.inl (refuse .badCmd (by decide) rfl))
  | cmdRsvdB8 _ => exact .inr (.inl (refuse .badCmd (by decide) rfl))
  | cmdRsvdB9 _ => exact .inr (.inl (refuse .badCmd (by decide) rfl))
  | cmdRsvdB10 _ => exact .inr (.inl (refuse .badCmd (by decide) rfl))
  | cmdRsvdB11 _ => exact .inr (.inl (refuse .badCmd (by decide) rfl))
  | cmdRsvdB12 _ => exact .inr (.inl (refuse .badCmd (by decide) rfl))
  | cmdRsvdB13 _ => exact .inr (.inl (refuse .badCmd (by decide) rfl))
  | cmdRsvdB14 _ => exact .inr (.inl (refuse .badCmd (by decide) rfl))
  | cmdRsvdB15 _ => exact .inr (.inl (refuse .badCmd (by decide) rfl))
  | cmdRsvdB16 _ => exact .inr (.inl (refuse .badCmd (by decide) rfl))
  | cmdRsvdB17 _ => exact .inr (.inl (refuse .badCmd (by decide) rfl))
  | cmdRsvdB18 _ => exact .inr (.inl (refuse .badCmd (by decide) rfl))
  | cmdRsvdB19 _ => exact .inr (.inl (refuse .badCmd (by decide) rfl))
  | cmdRsvdB20 _ => exact .inr (.inl (refuse .badCmd (by decide) rfl))
  | cmdRsvdB21 _ => exact .inr (.inl (refuse .badCmd (by decide) rfl))
  | cmdRsvdB22 _ => exact .inr (.inl (refuse .badCmd (by decide) rfl))
  | cmdRsvdB23 _ => exact .inr (.inl (refuse .badCmd (by decide) rfl))
  | cmdRsvdB24 _ => exact .inr (.inl (refuse .badCmd (by decide) rfl))
  | cmdRsvdB25 _ => exact .inr (.inl (refuse .badCmd (by decide) rfl))
  | cmdRsvdB26 _ => exact .inr (.inl (refuse .badCmd (by decide) rfl))
  | cmdRsvdB27 _ => exact .inr (.inl (refuse .badCmd (by decide) rfl))
  | cmdRsvdB28 _ => exact .inr (.inl (refuse .badCmd (by decide) rfl))
  | cmdRsvdB29 _ => exact .inr (.inl (refuse .badCmd (by decide) rfl))
  | cmdRsvdB30 _ => exact .inr (.inl (refuse .badCmd (by decide) rfl))
  | cmdRsvdB31 _ => exact .inr (.inl (refuse .badCmd (by decide) rfl))

end Sys2Proof.Machine
end

