-- ==== Sys2Proof/Laws/PerInstr.lean ====
section
/-! SUPPORT. The family `RowWord`: a well-formed instruction's word lies in its row of spec/opcode_table.json (R64). -/

namespace Sys2Proof.Laws.RowWord

def Statement (i : Instr) : Prop := i.wellFormed = true → inRow (opcodeRow i) (encode i) = true

theorem nop : Statement .nop := fun _ => by decide
theorem cal : Statement .cal := fun _ => by decide
theorem comp : Statement .comp := fun _ => by decide
theorem aclr : Statement .aclr := fun _ => by decide
theorem acc : Statement .acc := fun _ => by decide
theorem avg : Statement .avg := fun _ => by decide
theorem wrW1 (data : Data) : Statement (.wrW1 data) := fun _ => inRow_oneAddress true 0x02 data
theorem wrW2 (data : Data) : Statement (.wrW2 data) := fun _ => inRow_oneAddress true 0x03 data
theorem wrW3 (data : Data) : Statement (.wrW3 data) := fun _ => inRow_oneAddress true 0x04 data
theorem wrW4 (data : Data) : Statement (.wrW4 data) := fun _ => inRow_oneAddress true 0x05 data
theorem wrD1 (data : Data) : Statement (.wrD1 data) := fun _ => inRow_oneAddress true 0x06 data
theorem wrD2 (data : Data) : Statement (.wrD2 data) := fun _ => inRow_oneAddress true 0x07 data
theorem rdCmd (data : Data) : Statement (.rdCmd data) := fun _ => inRow_oneAddress false 0x00 data
theorem rdStatus (data : Data) : Statement (.rdStatus data) := fun _ => inRow_oneAddress false 0x01 data
theorem rdW1 (data : Data) : Statement (.rdW1 data) := fun _ => inRow_oneAddress false 0x02 data
theorem rdW2 (data : Data) : Statement (.rdW2 data) := fun _ => inRow_oneAddress false 0x03 data
theorem rdW3 (data : Data) : Statement (.rdW3 data) := fun _ => inRow_oneAddress false 0x04 data
theorem rdW4 (data : Data) : Statement (.rdW4 data) := fun _ => inRow_oneAddress false 0x05 data
theorem rdD1 (data : Data) : Statement (.rdD1 data) := fun _ => inRow_oneAddress false 0x06 data
theorem rdD2 (data : Data) : Statement (.rdD2 data) := fun _ => inRow_oneAddress false 0x07 data
theorem rdC1 (data : Data) : Statement (.rdC1 data) := fun _ => inRow_oneAddress false 0x08 data
theorem rdC2 (data : Data) : Statement (.rdC2 data) := fun _ => inRow_oneAddress false 0x09 data
theorem rdC3 (data : Data) : Statement (.rdC3 data) := fun _ => inRow_oneAddress false 0x0A data
theorem rdC4 (data : Data) : Statement (.rdC4 data) := fun _ => inRow_oneAddress false 0x0B data
theorem rdC5 (data : Data) : Statement (.rdC5 data) := fun _ => inRow_oneAddress false 0x0C data
theorem rdC6 (data : Data) : Statement (.rdC6 data) := fun _ => inRow_oneAddress false 0x0D data
theorem rdUt1 (data : Data) : Statement (.rdUt1 data) := fun _ => inRow_oneAddress false 0x0E data
theorem rdDt (data : Data) : Statement (.rdDt data) := fun _ => inRow_oneAddress false 0x0F data
theorem rdOff (data : Data) : Statement (.rdOff data) := fun _ => inRow_oneAddress false 0x10 data
theorem rdSens (data : Data) : Statement (.rdSens data) := fun _ => inRow_oneAddress false 0x11 data
theorem rdDt2 (data : Data) : Statement (.rdDt2 data) := fun _ => inRow_oneAddress false 0x12 data
theorem rdP (data : Data) : Statement (.rdP data) := fun _ => inRow_oneAddress false 0x13 data
theorem rdT (data : Data) : Statement (.rdT data) := fun _ => inRow_oneAddress false 0x14 data
theorem rdAccp (data : Data) : Statement (.rdAccp data) := fun _ => inRow_oneAddress false 0x15 data
theorem rdAcct (data : Data) : Statement (.rdAcct data) := fun _ => inRow_oneAddress false 0x16 data
theorem rdAccn (data : Data) : Statement (.rdAccn data) := fun _ => inRow_oneAddress false 0x17 data
theorem rdPavg (data : Data) : Statement (.rdPavg data) := fun _ => inRow_oneAddress false 0x18 data
theorem rdTavg (data : Data) : Statement (.rdTavg data) := fun _ => inRow_oneAddress false 0x19 data
theorem wrRo01 (addr : Addr) (data : Data) : Statement (.wrRo01 addr data) := fun h =>
  inRow_addresses true 0x7F 0x01 addr data ((by decide : ∀ a : Addr, addrIn 0x01 0x01 a = true → a &&& 0x7F = 0x01) addr h)
theorem wrRo08To0F (addr : Addr) (data : Data) : Statement (.wrRo08To0F addr data) := fun h =>
  inRow_addresses true 0x78 0x08 addr data ((by decide : ∀ a : Addr, addrIn 0x08 0x0F a = true → a &&& 0x78 = 0x08) addr h)
theorem wrRo10To17 (addr : Addr) (data : Data) : Statement (.wrRo10To17 addr data) := fun h =>
  inRow_addresses true 0x78 0x10 addr data ((by decide : ∀ a : Addr, addrIn 0x10 0x17 a = true → a &&& 0x78 = 0x10) addr h)
theorem wrRo18To19 (addr : Addr) (data : Data) : Statement (.wrRo18To19 addr data) := fun h =>
  inRow_addresses true 0x7E 0x18 addr data ((by decide : ∀ a : Addr, addrIn 0x18 0x19 a = true → a &&& 0x7E = 0x18) addr h)
theorem wrRsvd1ATo1B (addr : Addr) (data : Data) : Statement (.wrRsvd1ATo1B addr data) := fun h =>
  inRow_addresses true 0x7E 0x1A addr data ((by decide : ∀ a : Addr, addrIn 0x1A 0x1B a = true → a &&& 0x7E = 0x1A) addr h)
theorem wrRsvd1CTo1F (addr : Addr) (data : Data) : Statement (.wrRsvd1CTo1F addr data) := fun h =>
  inRow_addresses true 0x7C 0x1C addr data ((by decide : ∀ a : Addr, addrIn 0x1C 0x1F a = true → a &&& 0x7C = 0x1C) addr h)
theorem wrRsvd20To3F (addr : Addr) (data : Data) : Statement (.wrRsvd20To3F addr data) := fun h =>
  inRow_addresses true 0x60 0x20 addr data ((by decide : ∀ a : Addr, addrIn 0x20 0x3F a = true → a &&& 0x60 = 0x20) addr h)
theorem wrRsvd40To7F (addr : Addr) (data : Data) : Statement (.wrRsvd40To7F addr data) := fun h =>
  inRow_addresses true 0x40 0x40 addr data ((by decide : ∀ a : Addr, addrIn 0x40 0x7F a = true → a &&& 0x40 = 0x40) addr h)
theorem rdRsvd1ATo1B (addr : Addr) (data : Data) : Statement (.rdRsvd1ATo1B addr data) := fun h =>
  inRow_addresses false 0x7E 0x1A addr data ((by decide : ∀ a : Addr, addrIn 0x1A 0x1B a = true → a &&& 0x7E = 0x1A) addr h)
theorem rdRsvd1CTo1F (addr : Addr) (data : Data) : Statement (.rdRsvd1CTo1F addr data) := fun h =>
  inRow_addresses false 0x7C 0x1C addr data ((by decide : ∀ a : Addr, addrIn 0x1C 0x1F a = true → a &&& 0x7C = 0x1C) addr h)
theorem rdRsvd20To3F (addr : Addr) (data : Data) : Statement (.rdRsvd20To3F addr data) := fun h =>
  inRow_addresses false 0x60 0x20 addr data ((by decide : ∀ a : Addr, addrIn 0x20 0x3F a = true → a &&& 0x60 = 0x20) addr h)
theorem rdRsvd40To7F (addr : Addr) (data : Data) : Statement (.rdRsvd40To7F addr data) := fun h =>
  inRow_addresses false 0x40 0x40 addr data ((by decide : ∀ a : Addr, addrIn 0x40 0x7F a = true → a &&& 0x40 = 0x40) addr h)
theorem cmdRsvd6To7 (op : Data) : Statement (.cmdRsvd6To7 op) := fun h => inRow_opcodes 1 3 op (shift_of_6To7 op h)
theorem cmdRsvdB3 (op : Data) : Statement (.cmdRsvdB3 op) := fun h => inRow_opcodes 3 1 op (shift_of_highestBit 3 op h)
theorem cmdRsvdB4 (op : Data) : Statement (.cmdRsvdB4 op) := fun h => inRow_opcodes 4 1 op (shift_of_highestBit 4 op h)
theorem cmdRsvdB5 (op : Data) : Statement (.cmdRsvdB5 op) := fun h => inRow_opcodes 5 1 op (shift_of_highestBit 5 op h)
theorem cmdRsvdB6 (op : Data) : Statement (.cmdRsvdB6 op) := fun h => inRow_opcodes 6 1 op (shift_of_highestBit 6 op h)
theorem cmdRsvdB7 (op : Data) : Statement (.cmdRsvdB7 op) := fun h => inRow_opcodes 7 1 op (shift_of_highestBit 7 op h)
theorem cmdRsvdB8 (op : Data) : Statement (.cmdRsvdB8 op) := fun h => inRow_opcodes 8 1 op (shift_of_highestBit 8 op h)
theorem cmdRsvdB9 (op : Data) : Statement (.cmdRsvdB9 op) := fun h => inRow_opcodes 9 1 op (shift_of_highestBit 9 op h)
theorem cmdRsvdB10 (op : Data) : Statement (.cmdRsvdB10 op) := fun h => inRow_opcodes 10 1 op (shift_of_highestBit 10 op h)
theorem cmdRsvdB11 (op : Data) : Statement (.cmdRsvdB11 op) := fun h => inRow_opcodes 11 1 op (shift_of_highestBit 11 op h)
theorem cmdRsvdB12 (op : Data) : Statement (.cmdRsvdB12 op) := fun h => inRow_opcodes 12 1 op (shift_of_highestBit 12 op h)
theorem cmdRsvdB13 (op : Data) : Statement (.cmdRsvdB13 op) := fun h => inRow_opcodes 13 1 op (shift_of_highestBit 13 op h)
theorem cmdRsvdB14 (op : Data) : Statement (.cmdRsvdB14 op) := fun h => inRow_opcodes 14 1 op (shift_of_highestBit 14 op h)
theorem cmdRsvdB15 (op : Data) : Statement (.cmdRsvdB15 op) := fun h => inRow_opcodes 15 1 op (shift_of_highestBit 15 op h)
theorem cmdRsvdB16 (op : Data) : Statement (.cmdRsvdB16 op) := fun h => inRow_opcodes 16 1 op (shift_of_highestBit 16 op h)
theorem cmdRsvdB17 (op : Data) : Statement (.cmdRsvdB17 op) := fun h => inRow_opcodes 17 1 op (shift_of_highestBit 17 op h)
theorem cmdRsvdB18 (op : Data) : Statement (.cmdRsvdB18 op) := fun h => inRow_opcodes 18 1 op (shift_of_highestBit 18 op h)
theorem cmdRsvdB19 (op : Data) : Statement (.cmdRsvdB19 op) := fun h => inRow_opcodes 19 1 op (shift_of_highestBit 19 op h)
theorem cmdRsvdB20 (op : Data) : Statement (.cmdRsvdB20 op) := fun h => inRow_opcodes 20 1 op (shift_of_highestBit 20 op h)
theorem cmdRsvdB21 (op : Data) : Statement (.cmdRsvdB21 op) := fun h => inRow_opcodes 21 1 op (shift_of_highestBit 21 op h)
theorem cmdRsvdB22 (op : Data) : Statement (.cmdRsvdB22 op) := fun h => inRow_opcodes 22 1 op (shift_of_highestBit 22 op h)
theorem cmdRsvdB23 (op : Data) : Statement (.cmdRsvdB23 op) := fun h => inRow_opcodes 23 1 op (shift_of_highestBit 23 op h)
theorem cmdRsvdB24 (op : Data) : Statement (.cmdRsvdB24 op) := fun h => inRow_opcodes 24 1 op (shift_of_highestBit 24 op h)
theorem cmdRsvdB25 (op : Data) : Statement (.cmdRsvdB25 op) := fun h => inRow_opcodes 25 1 op (shift_of_highestBit 25 op h)
theorem cmdRsvdB26 (op : Data) : Statement (.cmdRsvdB26 op) := fun h => inRow_opcodes 26 1 op (shift_of_highestBit 26 op h)
theorem cmdRsvdB27 (op : Data) : Statement (.cmdRsvdB27 op) := fun h => inRow_opcodes 27 1 op (shift_of_highestBit 27 op h)
theorem cmdRsvdB28 (op : Data) : Statement (.cmdRsvdB28 op) := fun h => inRow_opcodes 28 1 op (shift_of_highestBit 28 op h)
theorem cmdRsvdB29 (op : Data) : Statement (.cmdRsvdB29 op) := fun h => inRow_opcodes 29 1 op (shift_of_highestBit 29 op h)
theorem cmdRsvdB30 (op : Data) : Statement (.cmdRsvdB30 op) := fun h => inRow_opcodes 30 1 op (shift_of_highestBit 30 op h)
theorem cmdRsvdB31 (op : Data) : Statement (.cmdRsvdB31 op) := fun h => inRow_opcodes 31 1 op (shift_of_highestBit 31 op h)

end Sys2Proof.Laws.RowWord
end

