-- ==== Sys2Proof/Tests/Slice0.lean ====
section
/-! SUPPORT. The model's own tests. Expected values are those of spec/95_test_vectors.md (named at each test) or words written
out from spec/30_encoding.md; the witnesses show that the hypotheses of the statements can be met. -/

namespace Sys2Proof.Tests

open Sys2Proof.Machine

/-! ## Decoding: one word per row, written from R53, R59 and the address map of R41 -/

theorem test_decode_commands :
    decode 0x8000000000 = .nop ∧
    decode 0x8000000001 = .cal ∧
    decode 0x8000000002 = .comp ∧
    decode 0x8000000003 = .aclr ∧
    decode 0x8000000004 = .acc ∧
    decode 0x8000000005 = .avg := by decide

theorem test_encode_commands :
    encode (.nop) = 0x8000000000 ∧
    encode (.cal) = 0x8000000001 ∧
    encode (.comp) = 0x8000000002 ∧
    encode (.aclr) = 0x8000000003 ∧
    encode (.acc) = 0x8000000004 ∧
    encode (.avg) = 0x8000000005 := by decide

theorem test_decode_input_writes :
    decode 0x82A5C31234 = .wrW1 0xA5C31234 ∧
    decode 0x83A5C31234 = .wrW2 0xA5C31234 ∧
    decode 0x84A5C31234 = .wrW3 0xA5C31234 ∧
    decode 0x85A5C31234 = .wrW4 0xA5C31234 ∧
    decode 0x86A5C31234 = .wrD1 0xA5C31234 ∧
    decode 0x87A5C31234 = .wrD2 0xA5C31234 := by decide

theorem test_encode_input_writes :
    encode (.wrW1 0xA5C31234) = 0x82A5C31234 ∧
    encode (.wrW2 0xA5C31234) = 0x83A5C31234 ∧
    encode (.wrW3 0xA5C31234) = 0x84A5C31234 ∧
    encode (.wrW4 0xA5C31234) = 0x85A5C31234 ∧
    encode (.wrD1 0xA5C31234) = 0x86A5C31234 ∧
    encode (.wrD2 0xA5C31234) = 0x87A5C31234 := by decide

theorem test_decode_register_reads_a :
    decode 0x00A5C31234 = .rdCmd 0xA5C31234 ∧
    decode 0x01A5C31234 = .rdStatus 0xA5C31234 ∧
    decode 0x02A5C31234 = .rdW1 0xA5C31234 ∧
    decode 0x03A5C31234 = .rdW2 0xA5C31234 ∧
    decode 0x04A5C31234 = .rdW3 0xA5C31234 ∧
    decode 0x05A5C31234 = .rdW4 0xA5C31234 ∧
    decode 0x06A5C31234 = .rdD1 0xA5C31234 ∧
    decode 0x07A5C31234 = .rdD2 0xA5C31234 ∧
    decode 0x08A5C31234 = .rdC1 0xA5C31234 ∧
    decode 0x09A5C31234 = .rdC2 0xA5C31234 := by decide

theorem test_encode_register_reads_a :
    encode (.rdCmd 0xA5C31234) = 0x00A5C31234 ∧
    encode (.rdStatus 0xA5C31234) = 0x01A5C31234 ∧
    encode (.rdW1 0xA5C31234) = 0x02A5C31234 ∧
    encode (.rdW2 0xA5C31234) = 0x03A5C31234 ∧
    encode (.rdW3 0xA5C31234) = 0x04A5C31234 ∧
    encode (.rdW4 0xA5C31234) = 0x05A5C31234 ∧
    encode (.rdD1 0xA5C31234) = 0x06A5C31234 ∧
    encode (.rdD2 0xA5C31234) = 0x07A5C31234 ∧
    encode (.rdC1 0xA5C31234) = 0x08A5C31234 ∧
    encode (.rdC2 0xA5C31234) = 0x09A5C31234 := by decide

theorem test_decode_register_reads_b :
    decode 0x0AA5C31234 = .rdC3 0xA5C31234 ∧
    decode 0x0BA5C31234 = .rdC4 0xA5C31234 ∧
    decode 0x0CA5C31234 = .rdC5 0xA5C31234 ∧
    decode 0x0DA5C31234 = .rdC6 0xA5C31234 ∧
    decode 0x0EA5C31234 = .rdUt1 0xA5C31234 ∧
    decode 0x0FA5C31234 = .rdDt 0xA5C31234 ∧
    decode 0x10A5C31234 = .rdOff 0xA5C31234 ∧
    decode 0x11A5C31234 = .rdSens 0xA5C31234 ∧
    decode 0x12A5C31234 = .rdDt2 0xA5C31234 ∧
    decode 0x13A5C31234 = .rdP 0xA5C31234 := by decide

theorem test_encode_register_reads_b :
    encode (.rdC3 0xA5C31234) = 0x0AA5C31234 ∧
    encode (.rdC4 0xA5C31234) = 0x0BA5C31234 ∧
    encode (.rdC5 0xA5C31234) = 0x0CA5C31234 ∧
    encode (.rdC6 0xA5C31234) = 0x0DA5C31234 ∧
    encode (.rdUt1 0xA5C31234) = 0x0EA5C31234 ∧
    encode (.rdDt 0xA5C31234) = 0x0FA5C31234 ∧
    encode (.rdOff 0xA5C31234) = 0x10A5C31234 ∧
    encode (.rdSens 0xA5C31234) = 0x11A5C31234 ∧
    encode (.rdDt2 0xA5C31234) = 0x12A5C31234 ∧
    encode (.rdP 0xA5C31234) = 0x13A5C31234 := by decide

theorem test_decode_register_reads_c :
    decode 0x14A5C31234 = .rdT 0xA5C31234 ∧
    decode 0x15A5C31234 = .rdAccp 0xA5C31234 ∧
    decode 0x16A5C31234 = .rdAcct 0xA5C31234 ∧
    decode 0x17A5C31234 = .rdAccn 0xA5C31234 ∧
    decode 0x18A5C31234 = .rdPavg 0xA5C31234 ∧
    decode 0x19A5C31234 = .rdTavg 0xA5C31234 := by decide

theorem test_encode_register_reads_c :
    encode (.rdT 0xA5C31234) = 0x14A5C31234 ∧
    encode (.rdAccp 0xA5C31234) = 0x15A5C31234 ∧
    encode (.rdAcct 0xA5C31234) = 0x16A5C31234 ∧
    encode (.rdAccn 0xA5C31234) = 0x17A5C31234 ∧
    encode (.rdPavg 0xA5C31234) = 0x18A5C31234 ∧
    encode (.rdTavg 0xA5C31234) = 0x19A5C31234 := by decide

theorem test_decode_read_only_writes :
    decode 0x8189ABCDEF = .wrRo01 0x01 0x89ABCDEF ∧
    decode 0x8F89ABCDEF = .wrRo08To0F 0x0F 0x89ABCDEF ∧
    decode 0x9789ABCDEF = .wrRo10To17 0x17 0x89ABCDEF ∧
    decode 0x9989ABCDEF = .wrRo18To19 0x19 0x89ABCDEF := by decide

theorem test_encode_read_only_writes :
    encode (.wrRo01 0x01 0x89ABCDEF) = 0x8189ABCDEF ∧
    encode (.wrRo08To0F 0x0F 0x89ABCDEF) = 0x8F89ABCDEF ∧
    encode (.wrRo10To17 0x17 0x89ABCDEF) = 0x9789ABCDEF ∧
    encode (.wrRo18To19 0x19 0x89ABCDEF) = 0x9989ABCDEF := by decide

theorem test_decode_reserved_writes :
    decode 0x9B89ABCDEF = .wrRsvd1ATo1B 0x1B 0x89ABCDEF ∧
    decode 0x9F89ABCDEF = .wrRsvd1CTo1F 0x1F 0x89ABCDEF ∧
    decode 0xBF89ABCDEF = .wrRsvd20To3F 0x3F 0x89ABCDEF ∧
    decode 0xFF89ABCDEF = .wrRsvd40To7F 0x7F 0x89ABCDEF := by decide

theorem test_encode_reserved_writes :
    encode (.wrRsvd1ATo1B 0x1B 0x89ABCDEF) = 0x9B89ABCDEF ∧
    encode (.wrRsvd1CTo1F 0x1F 0x89ABCDEF) = 0x9F89ABCDEF ∧
    encode (.wrRsvd20To3F 0x3F 0x89ABCDEF) = 0xBF89ABCDEF ∧
    encode (.wrRsvd40To7F 0x7F 0x89ABCDEF) = 0xFF89ABCDEF := by decide

theorem test_decode_reserved_reads :
    decode 0x1B89ABCDEF = .rdRsvd1ATo1B 0x1B 0x89ABCDEF ∧
    decode 0x1F89ABCDEF = .rdRsvd1CTo1F 0x1F 0x89ABCDEF ∧
    decode 0x3F89ABCDEF = .rdRsvd20To3F 0x3F 0x89ABCDEF ∧
    decode 0x7F89ABCDEF = .rdRsvd40To7F 0x7F 0x89ABCDEF := by decide

theorem test_encode_reserved_reads :
    encode (.rdRsvd1ATo1B 0x1B 0x89ABCDEF) = 0x1B89ABCDEF ∧
    encode (.rdRsvd1CTo1F 0x1F 0x89ABCDEF) = 0x1F89ABCDEF ∧
    encode (.rdRsvd20To3F 0x3F 0x89ABCDEF) = 0x3F89ABCDEF ∧
    encode (.rdRsvd40To7F 0x7F 0x89ABCDEF) = 0x7F89ABCDEF := by decide

theorem test_decode_reserved_opcodes_a :
    decode 0x8000000007 = .cmdRsvd6To7 7 ∧
    decode 0x800000000F = .cmdRsvdB3 0xF ∧
    decode 0x8000000015 = .cmdRsvdB4 0x15 ∧
    decode 0x8000000025 = .cmdRsvdB5 0x25 ∧
    decode 0x8000000045 = .cmdRsvdB6 0x45 ∧
    decode 0x8000000085 = .cmdRsvdB7 0x85 ∧
    decode 0x8000000105 = .cmdRsvdB8 0x105 ∧
    decode 0x8000000205 = .cmdRsvdB9 0x205 ∧
    decode 0x8000000405 = .cmdRsvdB10 0x405 ∧
    decode 0x8000000805 = .cmdRsvdB11 0x805 := by decide

theorem test_encode_reserved_opcodes_a :
    encode (.cmdRsvd6To7 7) = 0x8000000007 ∧
    encode (.cmdRsvdB3 0xF) = 0x800000000F ∧
    encode (.cmdRsvdB4 0x15) = 0x8000000015 ∧
    encode (.cmdRsvdB5 0x25) = 0x8000000025 ∧
    encode (.cmdRsvdB6 0x45) = 0x8000000045 ∧
    encode (.cmdRsvdB7 0x85) = 0x8000000085 ∧
    encode (.cmdRsvdB8 0x105) = 0x8000000105 ∧
    encode (.cmdRsvdB9 0x205) = 0x8000000205 ∧
    encode (.cmdRsvdB10 0x405) = 0x8000000405 ∧
    encode (.cmdRsvdB11 0x805) = 0x8000000805 := by decide

theorem test_decode_reserved_opcodes_b :
    decode 0x8000001005 = .cmdRsvdB12 0x1005 ∧
    decode 0x8000002005 = .cmdRsvdB13 0x2005 ∧
    decode 0x8000004005 = .cmdRsvdB14 0x4005 ∧
    decode 0x8000008005 = .cmdRsvdB15 0x8005 ∧
    decode 0x8000010005 = .cmdRsvdB16 0x10005 ∧
    decode 0x8000020005 = .cmdRsvdB17 0x20005 ∧
    decode 0x8000040005 = .cmdRsvdB18 0x40005 ∧
    decode 0x8000080005 = .cmdRsvdB19 0x80005 ∧
    decode 0x8000100005 = .cmdRsvdB20 0x100005 ∧
    decode 0x8000200005 = .cmdRsvdB21 0x200005 := by decide

theorem test_encode_reserved_opcodes_b :
    encode (.cmdRsvdB12 0x1005) = 0x8000001005 ∧
    encode (.cmdRsvdB13 0x2005) = 0x8000002005 ∧
    encode (.cmdRsvdB14 0x4005) = 0x8000004005 ∧
    encode (.cmdRsvdB15 0x8005) = 0x8000008005 ∧
    encode (.cmdRsvdB16 0x10005) = 0x8000010005 ∧
    encode (.cmdRsvdB17 0x20005) = 0x8000020005 ∧
    encode (.cmdRsvdB18 0x40005) = 0x8000040005 ∧
    encode (.cmdRsvdB19 0x80005) = 0x8000080005 ∧
    encode (.cmdRsvdB20 0x100005) = 0x8000100005 ∧
    encode (.cmdRsvdB21 0x200005) = 0x8000200005 := by decide

theorem test_decode_reserved_opcodes_c :
    decode 0x8000400005 = .cmdRsvdB22 0x400005 ∧
    decode 0x8000800005 = .cmdRsvdB23 0x800005 ∧
    decode 0x8001000005 = .cmdRsvdB24 0x1000005 ∧
    decode 0x8002000005 = .cmdRsvdB25 0x2000005 ∧
    decode 0x8004000005 = .cmdRsvdB26 0x4000005 ∧
    decode 0x8008000005 = .cmdRsvdB27 0x8000005 ∧
    decode 0x8010000005 = .cmdRsvdB28 0x10000005 ∧
    decode 0x8020000005 = .cmdRsvdB29 0x20000005 ∧
    decode 0x8040000005 = .cmdRsvdB30 0x40000005 ∧
    decode 0x8080000005 = .cmdRsvdB31 0x80000005 := by decide

theorem test_encode_reserved_opcodes_c :
    encode (.cmdRsvdB22 0x400005) = 0x8000400005 ∧
    encode (.cmdRsvdB23 0x800005) = 0x8000800005 ∧
    encode (.cmdRsvdB24 0x1000005) = 0x8001000005 ∧
    encode (.cmdRsvdB25 0x2000005) = 0x8002000005 ∧
    encode (.cmdRsvdB26 0x4000005) = 0x8004000005 ∧
    encode (.cmdRsvdB27 0x8000005) = 0x8008000005 ∧
    encode (.cmdRsvdB28 0x10000005) = 0x8010000005 ∧
    encode (.cmdRsvdB29 0x20000005) = 0x8020000005 ∧
    encode (.cmdRsvdB30 0x40000005) = 0x8040000005 ∧
    encode (.cmdRsvdB31 0x80000005) = 0x8080000005 := by decide

/-- The host's word form: 40 bits, nothing above. -/
theorem test_decodeTableWord :
    decodeTableWord 40 0x8000000002 = some .comp ∧ decodeTableWord 41 0x8000000002 = none := by decide

/-! ## Well-formedness: an ill-formed term for each check, at the edges of its row (R64) -/

theorem test_ill_formed_read_only_writes :
    Instr.wellFormed (.wrRo01 0x00 0) = false ∧
    Instr.wellFormed (.wrRo01 0x02 0) = false ∧
    Instr.wellFormed (.wrRo08To0F 0x07 0) = false ∧
    Instr.wellFormed (.wrRo08To0F 0x10 0) = false ∧
    Instr.wellFormed (.wrRo10To17 0x0F 0) = false ∧
    Instr.wellFormed (.wrRo10To17 0x18 0) = false ∧
    Instr.wellFormed (.wrRo18To19 0x17 0) = false ∧
    Instr.wellFormed (.wrRo18To19 0x1A 0) = false := by decide

theorem test_ill_formed_reserved_writes :
    Instr.wellFormed (.wrRsvd1ATo1B 0x19 0) = false ∧
    Instr.wellFormed (.wrRsvd1ATo1B 0x1C 0) = false ∧
    Instr.wellFormed (.wrRsvd1CTo1F 0x1B 0) = false ∧
    Instr.wellFormed (.wrRsvd1CTo1F 0x20 0) = false ∧
    Instr.wellFormed (.wrRsvd20To3F 0x1F 0) = false ∧
    Instr.wellFormed (.wrRsvd20To3F 0x40 0) = false ∧
    Instr.wellFormed (.wrRsvd40To7F 0x3F 0) = false := by decide

theorem test_ill_formed_reserved_reads :
    Instr.wellFormed (.rdRsvd1ATo1B 0x19 0) = false ∧
    Instr.wellFormed (.rdRsvd1ATo1B 0x1C 0) = false ∧
    Instr.wellFormed (.rdRsvd1CTo1F 0x1B 0) = false ∧
    Instr.wellFormed (.rdRsvd1CTo1F 0x20 0) = false ∧
    Instr.wellFormed (.rdRsvd20To3F 0x1F 0) = false ∧
    Instr.wellFormed (.rdRsvd20To3F 0x40 0) = false ∧
    Instr.wellFormed (.rdRsvd40To7F 0x3F 0) = false := by decide

theorem test_ill_formed_reserved_opcodes_a :
    Instr.wellFormed (.cmdRsvd6To7 5) = false ∧
    Instr.wellFormed (.cmdRsvd6To7 8) = false ∧
    Instr.wellFormed (.cmdRsvdB3 0x7) = false ∧
    Instr.wellFormed (.cmdRsvdB3 0x10) = false ∧
    Instr.wellFormed (.cmdRsvdB4 0xF) = false ∧
    Instr.wellFormed (.cmdRsvdB4 0x20) = false ∧
    Instr.wellFormed (.cmdRsvdB5 0x1F) = false ∧
    Instr.wellFormed (.cmdRsvdB5 0x40) = false ∧
    Instr.wellFormed (.cmdRsvdB6 0x3F) = false ∧
    Instr.wellFormed (.cmdRsvdB6 0x80) = false ∧
    Instr.wellFormed (.cmdRsvdB7 0x7F) = false ∧
    Instr.wellFormed (.cmdRsvdB7 0x100) = false ∧
    Instr.wellFormed (.cmdRsvdB8 0xFF) = false ∧
    Instr.wellFormed (.cmdRsvdB8 0x200) = false ∧
    Instr.wellFormed (.cmdRsvdB9 0x1FF) = false ∧
    Instr.wellFormed (.cmdRsvdB9 0x400) = false ∧
    Instr.wellFormed (.cmdRsvdB10 0x3FF) = false ∧
    Instr.wellFormed (.cmdRsvdB10 0x800) = false ∧
    Instr.wellFormed (.cmdRsvdB11 0x7FF) = false ∧
    Instr.wellFormed (.cmdRsvdB11 0x1000) = false := by decide

theorem test_ill_formed_reserved_opcodes_b :
    Instr.wellFormed (.cmdRsvdB12 0xFFF) = false ∧
    Instr.wellFormed (.cmdRsvdB12 0x2000) = false ∧
    Instr.wellFormed (.cmdRsvdB13 0x1FFF) = false ∧
    Instr.wellFormed (.cmdRsvdB13 0x4000) = false ∧
    Instr.wellFormed (.cmdRsvdB14 0x3FFF) = false ∧
    Instr.wellFormed (.cmdRsvdB14 0x8000) = false ∧
    Instr.wellFormed (.cmdRsvdB15 0x7FFF) = false ∧
    Instr.wellFormed (.cmdRsvdB15 0x10000) = false ∧
    Instr.wellFormed (.cmdRsvdB16 0xFFFF) = false ∧
    Instr.wellFormed (.cmdRsvdB16 0x20000) = false ∧
    Instr.wellFormed (.cmdRsvdB17 0x1FFFF) = false ∧
    Instr.wellFormed (.cmdRsvdB17 0x40000) = false ∧
    Instr.wellFormed (.cmdRsvdB18 0x3FFFF) = false ∧
    Instr.wellFormed (.cmdRsvdB18 0x80000) = false ∧
    Instr.wellFormed (.cmdRsvdB19 0x7FFFF) = false ∧
    Instr.wellFormed (.cmdRsvdB19 0x100000) = false ∧
    Instr.wellFormed (.cmdRsvdB20 0xFFFFF) = false ∧
    Instr.wellFormed (.cmdRsvdB20 0x200000) = false ∧
    Instr.wellFormed (.cmdRsvdB21 0x1FFFFF) = false ∧
    Instr.wellFormed (.cmdRsvdB21 0x400000) = false := by decide

theorem test_ill_formed_reserved_opcodes_c :
    Instr.wellFormed (.cmdRsvdB22 0x3FFFFF) = false ∧
    Instr.wellFormed (.cmdRsvdB22 0x800000) = false ∧
    Instr.wellFormed (.cmdRsvdB23 0x7FFFFF) = false ∧
    Instr.wellFormed (.cmdRsvdB23 0x1000000) = false ∧
    Instr.wellFormed (.cmdRsvdB24 0xFFFFFF) = false ∧
    Instr.wellFormed (.cmdRsvdB24 0x2000000) = false ∧
    Instr.wellFormed (.cmdRsvdB25 0x1FFFFFF) = false ∧
    Instr.wellFormed (.cmdRsvdB25 0x4000000) = false ∧
    Instr.wellFormed (.cmdRsvdB26 0x3FFFFFF) = false ∧
    Instr.wellFormed (.cmdRsvdB26 0x8000000) = false ∧
    Instr.wellFormed (.cmdRsvdB27 0x7FFFFFF) = false ∧
    Instr.wellFormed (.cmdRsvdB27 0x10000000) = false ∧
    Instr.wellFormed (.cmdRsvdB28 0xFFFFFFF) = false ∧
    Instr.wellFormed (.cmdRsvdB28 0x20000000) = false ∧
    Instr.wellFormed (.cmdRsvdB29 0x1FFFFFFF) = false ∧
    Instr.wellFormed (.cmdRsvdB29 0x40000000) = false ∧
    Instr.wellFormed (.cmdRsvdB30 0x3FFFFFFF) = false ∧
    Instr.wellFormed (.cmdRsvdB30 0x80000000) = false ∧
    Instr.wellFormed (.cmdRsvdB31 0x7FFFFFFF) = false := by decide

/-! ## Small states -/

/-- The next state an outcome holds. -/
def nextOf (o : Outcome) : Option State :=
  match o with
  | .next t => some t
  | .fault _ => none
  | .refused _ => none

/-- A machine whose block is `b`, with nothing presented and nothing answered. -/
def machine (b : Block) : State := { State.reset with block := b }

/-- `b` after one instruction, with the response; `none` would be a stop. -/
def after (i : Instr) (b : Block) : Option (Block × List Response) :=
  (nextOf (exec i (machine b))).map (fun t => (t.block, t.responses))

/-- The four words of V-CAL-1, all written. -/
def withWords : Block :=
  { Block.reset with w1 := 0x487C, w2 := 0xC01F, w3 := 0x5752, w4 := 0x6DB3, w1v := true, w2v := true, w3v := true, w4v := true }

/-- Ready with these coefficients (section 2.3's coefficient sets) and a sample. -/
def ready (c1 : BitVec 13) (c2 : BitVec 14) (c3 : BitVec 10) (c4 : BitVec 11) (c5 : BitVec 12) (c6 : BitVec 7)
    (d1 d2 : BitVec 16) : Block :=
  { withWords with
    c1 := c1, c2 := c2, c3 := c3, c4 := c4, c5 := c5, c6 := c6, calv := true, d1 := d1, d2 := d2, d1v := true, d2v := true }

/-- Coefficient set REF with the sample of program P1. -/
def ref : Block := ready 2319 4864 349 219 2002 51 17788 26603

/-- The end state of program P1. -/
def p1End : Block :=
  { ref with
    ut1 := 26016, dt := 587, off := 14859, sens := 4198, dt2 := 585, p := 4001, t := 243, resv := true }

/-! ## One step of each instruction, from section 2 of the vectors -/

/-- V-WR-3. -/
theorem test_wrW1 : after (.wrW1 0xFFFFFFFF) Block.reset =
    some ({ Block.reset with w1 := 65535, w1v := true }, [⟨.ok, 0⟩]) := by decide

/-- P1 line 2. -/
theorem test_wrW2 : after (.wrW2 49183) Block.reset =
    some ({ Block.reset with w2 := 49183, w2v := true }, [⟨.ok, 0⟩]) := by decide

/-- P1 line 3 with a high half that R68 drops. -/
theorem test_wrW3 : after (.wrW3 0x00015752) Block.reset =
    some ({ Block.reset with w3 := 22354, w3v := true }, [⟨.ok, 0⟩]) := by decide

/-- V-WR-4. -/
theorem test_wrW4 : after (.wrW4 0) Block.reset =
    some ({ Block.reset with w4 := 0, w4v := true }, [⟨.ok, 0⟩]) := by decide

/-- V-WR-2. -/
theorem test_wrD1 : after (.wrD1 0x12345678) Block.reset =
    some ({ Block.reset with d1 := 22136, d1v := true }, [⟨.ok, 0⟩]) := by decide

/-- V-WR-1. -/
theorem test_wrD2 : after (.wrD2 26603) Block.reset =
    some ({ Block.reset with d2 := 26603, d2v := true }, [⟨.ok, 0⟩]) := by decide

/-- The registers of P1 lines 1 to 14, read back (P1 lines 6 to 17). -/
theorem test_reads_of_p1 : ∀ x ∈ [
      (Instr.rdW1 0, (0x0000487C : Data)),
      (Instr.rdW2 0, (0x0000C01F : Data)),
      (Instr.rdW3 0, (0x00005752 : Data)),
      (Instr.rdW4 0, (0x00006DB3 : Data)),
      (Instr.rdD1 0, (0x0000457C : Data)),
      (Instr.rdD2 0, (0x000067EB : Data)),
      (Instr.rdC1 0, (0x0000090F : Data)),
      (Instr.rdC2 0, (0x00001300 : Data)),
      (Instr.rdC3 0, (0x0000015D : Data)),
      (Instr.rdC4 0, (0x000000DB : Data)),
      (Instr.rdC5 0, (0x000007D2 : Data)),
      (Instr.rdC6 0, (0x00000033 : Data)),
      (.rdP 0, 0x00000FA1),
      (.rdT 0, 0x000000F3),
      (.rdStatus 0, 0x000003F3),
      (.rdCmd 0, 0),
      (.rdUt1 0, 26016)],
    after x.1 p1End = some (p1End, [⟨.ok, x.2⟩]) := by decide

/-- A state with the signed registers negative (V-COMP-2's register reads, P4 lines 18 to 21, V-RD-9). -/
def negatives : Block :=
  { ref with
    dt := BitVec.ofInt 32 (-2670), off := 14884, sens := 3980, dt2 := BitVec.ofInt 32 (-2725), p := 59399,
    t := BitVec.ofInt 16 (-1), accp := 7642, acct := BitVec.ofInt 32 (-3), accn := 2, pavg := 3821,
    tavg := BitVec.ofInt 16 (-1), resv := true }

theorem test_reads_extend :
    after (.rdDt 0xDEADBEEF) negatives = some (negatives, [⟨.ok, 0xFFFFF592⟩]) ∧
    after (.rdOff 0xDEADBEEF) negatives = some (negatives, [⟨.ok, 0x00003A24⟩]) ∧
    after (.rdSens 0xDEADBEEF) negatives = some (negatives, [⟨.ok, 0x00000F8C⟩]) ∧
    after (.rdDt2 0xDEADBEEF) negatives = some (negatives, [⟨.ok, 0xFFFFF55B⟩]) ∧
    after (.rdP 0xDEADBEEF) negatives = some (negatives, [⟨.ok, 0x0000E807⟩]) ∧
    after (.rdT 0xDEADBEEF) negatives = some (negatives, [⟨.ok, 0xFFFFFFFF⟩]) ∧
    after (.rdAccp 0xDEADBEEF) negatives = some (negatives, [⟨.ok, 7642⟩]) ∧
    after (.rdAcct 0xDEADBEEF) negatives = some (negatives, [⟨.ok, 0xFFFFFFFD⟩]) ∧
    after (.rdAccn 0xDEADBEEF) negatives = some (negatives, [⟨.ok, 2⟩]) ∧
    after (.rdPavg 0xDEADBEEF) negatives = some (negatives, [⟨.ok, 0x00000EED⟩]) ∧
    after (.rdTavg 0xDEADBEEF) negatives = some (negatives, [⟨.ok, 0xFFFFFFFF⟩]) := by decide

/-- STATUS words of V-CAL-28, V-COMP-7 and P4's end. -/
theorem test_status_words :
    ({ Block.reset with w1v := true, w2v := true, w4v := true, ecode := 4 } : Block).statusWord = 0x000040B0 ∧
    ({ p1End with povf := true } : Block).statusWord = 0x000003FB ∧
    ({ p1End with avgv := true, ecode := 10 } : Block).statusWord = 0x0000A3F7 := by decide

/-- A refusal of the reset state: what `after` gives for it. -/
def refusedFromReset (code : BitVec 4) (st : Status) : Option (Block × List Response) :=
  some ({ Block.reset with ecode := code }, [⟨st, 0⟩])

/-- V-WR-5, V-WR-6, V-WR-7 and the other edges of the read-only rows. -/
theorem test_read_only_writes :
    after (.wrRo08To0F 0x08 5) Block.reset = refusedFromReset 2 .ro ∧
    after (.wrRo01 0x01 0) Block.reset = refusedFromReset 2 .ro ∧
    after (.wrRo18To19 0x19 1) Block.reset = refusedFromReset 2 .ro ∧
    after (.wrRo10To17 0x13 0) Block.reset = refusedFromReset 2 .ro := by decide

/-- V-WR-8, V-WR-9, the example of R70, and 0x1C. -/
theorem test_reserved_writes :
    after (.wrRsvd1ATo1B 0x1A 1) Block.reset = refusedFromReset 1 .badAddr ∧
    after (.wrRsvd1CTo1F 0x1C 1) Block.reset = refusedFromReset 1 .badAddr ∧
    after (.wrRsvd20To3F 0x20 1) Block.reset = refusedFromReset 1 .badAddr ∧
    after (.wrRsvd40To7F 0x7F 0xFFFFFFFF) Block.reset = refusedFromReset 1 .badAddr := by decide

/-- V-RD-4, V-RD-5, and the two blocks between. -/
theorem test_reserved_reads :
    after (.rdRsvd1ATo1B 0x1A 0) Block.reset = refusedFromReset 1 .badAddr ∧
    after (.rdRsvd1CTo1F 0x1F 0) Block.reset = refusedFromReset 1 .badAddr ∧
    after (.rdRsvd20To3F 0x20 0) Block.reset = refusedFromReset 1 .badAddr ∧
    after (.rdRsvd40To7F 0x7F 0) Block.reset = refusedFromReset 1 .badAddr := by decide

/-- V-WR-10, V-WR-11, V-WR-12 through the decoder, at the edges of the reserved range. -/
theorem test_reserved_opcodes :
    after (decode 0x8000000006) Block.reset = refusedFromReset 3 .badCmd ∧
    after (decode 0x8000000101) Block.reset = refusedFromReset 3 .badCmd ∧
    after (decode 0x8080000001) Block.reset = refusedFromReset 3 .badCmd ∧
    after (decode 0x80FFFFFFFF) Block.reset = refusedFromReset 3 .badCmd := by decide

/-- The six coefficients CAL leaves when these four words were written. -/
def calOf (v1 v2 v3 v4 : BitVec 16) : Option (List Nat) :=
  (after .cal { withWords with w1 := v1, w2 := v2, w3 := v3, w4 := v4 }).map (fun r =>
    [r.1.c1.toNat, r.1.c2.toNat, r.1.c3.toNat, r.1.c4.toNat, r.1.c5.toNat, r.1.c6.toNat])

/-- V-CAL-1 to V-CAL-26. -/
theorem test_cal_vectors : ∀ x ∈ [
      (calOf 0x487C 0xC01F 0x5752 0x6DB3, [2319, 4864, 349, 219, 2002, 51]),
      (calOf 0x0000 0x0000 0x0000 0x0000, [0, 0, 0, 0, 0, 0]),
      (calOf 0xFFFF 0xFFFF 0xFFFF 0xFFFF, [8191, 8191, 1023, 511, 4095, 127]),
      (calOf 0xFFF8 0x0000 0x0000 0x0000, [8191, 0, 0, 0, 0, 0]),
      (calOf 0x0007 0xFFC0 0x0000 0x0000, [0, 8191, 0, 0, 0, 0]),
      (calOf 0x0000 0x0000 0xFFC0 0x0000, [0, 0, 1023, 0, 0, 0]),
      (calOf 0x0000 0x0000 0x0000 0xFF80, [0, 0, 0, 511, 0, 0]),
      (calOf 0x0000 0x003F 0x003F 0x0000, [0, 0, 0, 0, 4095, 0]),
      (calOf 0x0000 0x0000 0x0000 0x007F, [0, 0, 0, 0, 0, 127]),
      (calOf 0x0008 0x0000 0x0000 0x0000, [1, 0, 0, 0, 0, 0]),
      (calOf 0x8000 0x0000 0x0000 0x0000, [4096, 0, 0, 0, 0, 0]),
      (calOf 0x0004 0x0000 0x0000 0x0000, [0, 4096, 0, 0, 0, 0]),
      (calOf 0x0001 0x0000 0x0000 0x0000, [0, 1024, 0, 0, 0, 0]),
      (calOf 0x0000 0x8000 0x0000 0x0000, [0, 512, 0, 0, 0, 0]),
      (calOf 0x0000 0x0040 0x0000 0x0000, [0, 1, 0, 0, 0, 0]),
      (calOf 0x0000 0x0020 0x0000 0x0000, [0, 0, 0, 0, 2048, 0]),
      (calOf 0x0000 0x0001 0x0000 0x0000, [0, 0, 0, 0, 64, 0]),
      (calOf 0x0000 0x0000 0x8000 0x0000, [0, 0, 512, 0, 0, 0]),
      (calOf 0x0000 0x0000 0x0040 0x0000, [0, 0, 1, 0, 0, 0]),
      (calOf 0x0000 0x0000 0x0020 0x0000, [0, 0, 0, 0, 32, 0]),
      (calOf 0x0000 0x0000 0x0001 0x0000, [0, 0, 0, 0, 1, 0]),
      (calOf 0x0000 0x0000 0x0000 0x8000, [0, 0, 0, 256, 0, 0]),
      (calOf 0x0000 0x0000 0x0000 0x0080, [0, 0, 0, 1, 0, 0]),
      (calOf 0x0000 0x0000 0x0000 0x0040, [0, 0, 0, 0, 0, 64]),
      (calOf 0x0000 0x0000 0x0000 0x0001, [0, 0, 0, 0, 0, 1]),
      (calOf 0xA5A5 0x5A5A 0x1234 0xFEDC, [5300, 5481, 72, 509, 1716, 92])],
    x.1 = some x.2 := by decide

/-- V-CAL-27, V-CAL-28, V-CAL-29, and what a successful CAL leaves alone. -/
theorem test_cal_refusals :
    after .cal Block.reset = refusedFromReset 4 .noWords ∧
    after .cal { withWords with w3v := false } = some ({ withWords with w3v := false, ecode := 4 }, [⟨.noWords, 0⟩]) ∧
    after .cal p1End = some ({ p1End with ecode := 5 }, [⟨.recal, 0⟩]) ∧
    after .cal withWords = some ({ withWords with
      c1 := 2319, c2 := 4864, c3 := 349, c4 := 219, c5 := 2002, c6 := 51, calv := true }, [⟨.ok, 0⟩]) := by decide

/-- UT1, DT, OFF, SENS, P, DT2, T after COMP, and POVF. -/
def compOf (b : Block) : Option (List Int × Bool) :=
  (after .comp b).map (fun r =>
    ([r.1.ut1.toInt, r.1.dt.toInt, r.1.off.toInt, r.1.sens.toInt, r.1.p.toNat, r.1.dt2.toInt, r.1.t.toInt], r.1.povf))

/-- V-COMP-1 to V-COMP-24. -/
theorem test_comp_vectors : ∀ x ∈ [
      (compOf (ready 2319 4864 349 219 2002 51 17788 26603),
        ([26016, 587, 14859, 4198, 4001, 585, 243], false)),
      (compOf (ready 2319 4864 349 219 2002 51 17788 23346),
        ([26016, -2670, 14884, 3980, 3821, -2725, -1], false)),
      (compOf (ready 2319 4864 349 219 2002 51 17788 31016),
        ([26016, 5000, 14826, 4494, 4249, 4810, 554], false)),
      (compOf (ready 2319 4864 349 219 2002 51 17788 26016),
        ([26016, 0, 14864, 4159, 3968, 0, 200], false)),
      (compOf (ready 2319 4864 349 219 2002 51 14859 26603),
        ([26016, 587, 14859, 4198, 1000, 585, 243], false)),
      (compOf (ready 2319 4864 349 219 2002 51 0 26603),
        ([26016, 587, 14859, 4198, 51306, 585, 243], true)),
      (compOf (ready 0 0 0 0 0 0 0 0),
        ([10000, -10000, 10610, 2755, 59399, -10780, -327], true)),
      (compOf (ready 0 0 0 0 0 0 65535 65535),
        ([10000, 55535, 6610, 4355, 63650, 32099, 1767], false)),
      (compOf (ready 8191 8191 1023 511 4095 127 65535 65535),
        ([42760, 22775, 19642, 10495, 53053, 18859, 2290], true)),
      (compOf (ready 8191 8191 1023 511 4095 127 0 0),
        ([42760, -42760, 15466, 711, 63851, -56788, -6095], true)),
      (compOf (ready 8191 8191 1023 511 4095 127 65535 0),
        ([42760, -42760, 15466, 711, 9691, -56788, -6095], false)),
      (compOf (ready 8191 0 1023 0 0 0 65535 65535),
        ([10000, 55535, 6610, 15385, 25720, 32099, 1767], true)),
      (compOf (ready 8191 8191 1023 511 0 0 0 65535),
        ([10000, 55535, 21729, 15385, 50455, 32099, 1767], true)),
      (compOf (ready 2319 4864 349 219 2002 51 17788 26399),
        ([26016, 383, 14861, 4184, 3989, 383, 228], false)),
      (compOf (ready 2319 4864 349 219 2002 51 17788 26400),
        ([26016, 384, 14861, 4184, 3989, 383, 228], false)),
      (compOf (ready 2319 4864 349 219 2002 51 17788 25760),
        ([26016, -256, 14865, 4141, 3955, -256, 181], false)),
      (compOf (ready 2319 4864 349 219 2002 51 17788 25759),
        ([26016, -257, 14865, 4141, 3955, -258, 180], false)),
      (compOf (ready 2319 4864 349 219 2002 51 65535 26603),
        ([26016, 587, 14859, 4198, 52937, 585, 243], false)),
      (compOf (ready 2319 4864 349 219 2002 51 17788 0),
        ([26016, -26016, 15060, 2415, 2608, -31218, -2102], false)),
      (compOf (ready 2319 4864 349 219 2002 51 17788 65535),
        ([26016, 39519, 14564, 6807, 6357, 27661, 2239], false)),
      (compOf (ready 2319 4864 349 219 2002 51 17788 26143),
        ([26016, 127, 14863, 4167, 3975, 127, 209], false)),
      (compOf (ready 2319 4864 349 219 2002 51 17788 26144),
        ([26016, 128, 14863, 4167, 3975, 128, 209], false)),
      (compOf (ready 2319 4864 349 219 2002 51 17788 25888),
        ([26016, -128, 14864, 4150, 3962, -128, 190], false)),
      (compOf (ready 2319 4864 349 219 2002 51 17788 25887),
        ([26016, -129, 14864, 4150, 3962, -129, 190], false))],
    x.1 = some x.2 := by decide +kernel

/-- V-COMP-25 to V-COMP-30, and what COMP leaves alone. -/
theorem test_comp_refusals :
    after .comp Block.reset = refusedFromReset 6 .noCal ∧
    after .comp { Block.reset with d1v := true, d2v := true } =
      some ({ Block.reset with d1v := true, d2v := true, ecode := 6 }, [⟨.noCal, 0⟩]) ∧
    after .comp { ref with d2v := false } = some ({ ref with d2v := false, ecode := 7 }, [⟨.noSample, 0⟩]) ∧
    after .comp { ref with d1v := false } = some ({ ref with d1v := false, ecode := 7 }, [⟨.noSample, 0⟩]) ∧
    after .comp ref = some (p1End, [⟨.ok, 0⟩]) ∧
    after .comp p1End = some (p1End, [⟨.ok, 0⟩]) ∧
    after .comp { p1End with povf := true, p := 51306 } = some (p1End, [⟨.ok, 0⟩]) := by decide +kernel

/-- V-AVG-15. -/
theorem test_nop : after .nop negatives = some (negatives, [⟨.ok, 0⟩]) := by decide

/-- V-AVG-13. -/
theorem test_aclr :
    after .aclr { p1End with accp := 3002, acct := 729, accn := 3, pavg := 1000, tavg := 243, avgv := true } =
      some ({ p1End with pavg := 1000, tavg := 243, avgv := true }, [⟨.ok, 0⟩]) := by decide

/-- The example of R106, V-AVG-12 (the last ACC that succeeds), V-AVG-16, and a negative temperature (P4 line 17). -/
theorem test_acc :
    after .acc { p1End with p := 1001, accp := 1000, acct := 243, accn := 1 } =
      some ({ p1End with p := 1001, accp := 2001, acct := 486, accn := 2 }, [⟨.ok, 0⟩]) ∧
    after .acc { p1End with accp := 262201534, acct := 15924762, accn := 65534 } =
      some ({ p1End with accp := 262205535, acct := 15925005, accn := 65535 }, [⟨.ok, 0⟩]) ∧
    after .acc { p1End with p := 51306, povf := true } =
      some ({ p1End with p := 51306, povf := true, accp := 51306, acct := 243, accn := 1 }, [⟨.ok, 0⟩]) ∧
    after .acc { p1End with p := 3821, t := BitVec.ofInt 16 (-2), accp := 3821, acct := BitVec.ofInt 32 (-1), accn := 1 } =
      some ({ p1End with p := 3821, t := BitVec.ofInt 16 (-2), accp := 7642, acct := BitVec.ofInt 32 (-3), accn := 2 },
        [⟨.ok, 0⟩]) := by decide

/-- V-AVG-10, V-AVG-11, and E_NORES before E_ACCFULL (R106). -/
theorem test_acc_refusals :
    after .acc Block.reset = refusedFromReset 8 .noRes ∧
    after .acc { p1End with accp := 262205535, acct := 15925005, accn := 65535 } =
      some ({ p1End with accp := 262205535, acct := 15925005, accn := 65535, ecode := 9 }, [⟨.accFull, 0⟩]) ∧
    after .acc { Block.reset with accn := 65535 } =
      some ({ Block.reset with accn := 65535, ecode := 8 }, [⟨.noRes, 0⟩]) := by decide

/-- PAVG and TAVG that AVG leaves for these sums. -/
def avgOf (accp : BitVec 32) (acct : Int) (accn : BitVec 16) : Option (Nat × Int × Bool) :=
  (after .avg { p1End with accp := accp, acct := BitVec.ofInt 32 acct, accn := accn }).map (fun r =>
    (r.1.pavg.toNat, r.1.tavg.toInt, r.1.avgv))

/-- V-AVG-1 to V-AVG-8. -/
theorem test_avg_vectors :
    avgOf 3002 729 3 = some (1000, 243, true) ∧ avgOf 7642 (-3) 2 = some (3821, -1, true) ∧
    avgOf 4001 243 1 = some (4001, 243, true) ∧ avgOf 19105 (-5) 5 = some (3821, -1, true) ∧
    avgOf 0 (-7) 2 = some (0, -3, true) ∧ avgOf 0 7 2 = some (0, 3, true) ∧ avgOf 0 (-1) 2 = some (0, 0, true) ∧
    avgOf 1 0 2 = some (0, 0, true) := by decide +kernel

/-- V-AVG-9 and V-AVG-14: AVG leaves the sums. -/
theorem test_avg_frame :
    after .avg Block.reset = refusedFromReset 10 .div0 ∧
    after .avg { p1End with accp := 3002, acct := 729, accn := 3, pavg := 1000, tavg := 243, avgv := true } =
      some ({ p1End with accp := 3002, acct := 729, accn := 3, pavg := 1000, tavg := 243, avgv := true },
        [⟨.ok, 0⟩]) := by decide

/-- V-ERR-1 and V-ERR-3: the first code stays, and a success does not clear it. -/
theorem test_first_code_stays :
    after .avg { Block.reset with ecode := 6 } = some ({ Block.reset with ecode := 6 }, [⟨.div0, 0⟩]) ∧
    after .nop { Block.reset with ecode := 3 } = some ({ Block.reset with ecode := 3 }, [⟨.ok, 0⟩]) := by decide

/-- V-ERR-4, V-RST-1: the reset event clears the block; a waiting step changes nothing (R14). -/
theorem test_reset_event :
    nextOf (step { machine { p1End with ecode := 6 } with pending := [.reset, .transaction 0] }) =
      some { State.reset with pending := [.transaction 0] } ∧
    nextOf (step (machine p1End)) = some (machine p1End) := by decide

/-- The first instruction after reset, placed by the host (P3 line 2). -/
theorem test_withFetchWord :
    nextOf (step (State.reset.withFetchWord 40 0x8000000002)) =
      some { State.reset with block := { Block.reset with ecode := 6 }, responses := [⟨.noCal, 0⟩] } := by decide

/-- The free values of log 5 stand only where a result does not fit: here the sum is one too many for 32 bits. -/
theorem test_unreachable_sum_is_free :
    ({ p1End with accp := 0xFFFFFFFF, p := 1 } : Block).accumulate.accp = Config.accpBeyond 0xFFFFFFFF 1 := by
  simp [Block.accumulate, narrowU]

/-! ## The 32-bit network and the host's sequences -/

/-- The network of R96 on V-COMP-2 and V-COMP-13. -/
theorem test_network :
    (ready 2319 4864 349 219 2002 51 17788 23346).compensate32 = (ready 2319 4864 349 219 2002 51 17788 23346).compensate ∧
    (ready 8191 8191 1023 511 0 0 0 65535).compensate32 = (ready 8191 8191 1023 511 0 0 0 65535).compensate := by decide +kernel

/-- P1 lines 1 to 5 and 12 to 14 as `ldcal` and `sample`, and the six command words of R59. -/
theorem test_pseudo_instructions :
    asmLdcal 18556 49183 22354 28083 = [0x820000487C, 0x830000C01F, 0x8400005752, 0x8500006DB3, 0x8000000001] ∧
    asmSample 17788 26603 = [0x87000067EB, 0x860000457C, 0x8000000002] ∧
    [asmNop, asmCal, asmComp, asmAclr, asmAcc, asmAvg] =
      [0x8000000000, 0x8000000001, 0x8000000002, 0x8000000003, 0x8000000004, 0x8000000005] ∧
    asmRd .p = 0x1300000000 ∧ assembleWord 0x48 0x7C = 0x487C := by decide

/-- The transactions of P2 lines 6 to 10, 19, 23, 24 are READ_AVG(1)'s; READ_ONCE stops on a failed exchange (R121). -/
theorem test_sequences :
    runActions (readAvgActions 1) [.word 26603, .word 14859] =
      ⟨[0x8000000003, 0x87000067EB, 0x8600003A0B, 0x8000000002, 0x8000000004, 0x8000000005, 0x1800000000,
        0x1900000000].map .transaction, .done⟩ ∧
    runActions readOnceActions [.word 26603, .readError] = ⟨[.transaction 0x87000067EB], .failed .read⟩ ∧
    runActions readOnceActions [.word 26603] = ⟨[.transaction 0x87000067EB], .blocked⟩ ∧
    initSequence false [] = ⟨[], .failed .setup⟩ := by decide

/-! ## Witnesses: the hypotheses of each statement of Certificates/Slice0/Obligations.lean, met, clause by clause -/

theorem witness_DecodeInvertsEncode :
    Instr.wellFormed (.wrRo08To0F 0x0F 5) = true ∧ Instr.wellFormed (.cmdRsvdB31 0xFFFFFFFF) = true := by decide

theorem witness_TableRowsPartitionTheWords :
    inRow (opcodeRow .cal) 0x8000000001 = true ∧ inRow (opcodeRow (.wrRsvd40To7F 0x40 0)) 0xFFFFFFFFFF = true := by decide

theorem witness_StepRunsPresentedTransaction :
    (State.reset.withFetchWord 40 0x80FFFFFFFF).pending = .transaction 0x80FFFFFFFF :: [] := by decide

theorem witness_StepWaitsWhileNothingIsPresented :
    State.reset.pending = [] := by decide

theorem witness_ResetEventClearsTheBlock :
    ({ machine p1End with pending := [.reset, .reset] } : State).pending = .reset :: [.reset] := by decide

theorem witness_StepIsTheTransactionFunction :
    ({ machine p1End with pending := [.transaction 0x7F00000000] } : State).pending =
      .transaction 0x7F00000000 :: [] := by decide

theorem witness_EveryTransactionIsAnsweredOnce :
    Instr.wellFormed (.wrRsvd40To7F 0x7F 0) = true ∧ txnW (encode (.wrRsvd40To7F 0x7F 0)) = true := by decide

theorem witness_RefusalChangesNothingButEcode :
    nextOf (exec .comp State.reset) = some (State.reset.answeredWith { Block.reset with ecode := 6 } ⟨.noCal, 0⟩) ∧
    (State.reset.answeredWith { Block.reset with ecode := 6 } ⟨.noCal, 0⟩).responses = State.reset.responses ++ [⟨.noCal, 0⟩] ∧
    (⟨.noCal, 0⟩ : Response).st ≠ .ok := by decide

theorem witness_FirstRefusalIsRecorded :
    (nextOf (exec .comp State.reset)).isSome = true ∧
    nextOf (step { machine { p1End with ecode := 6 } with pending := [.reset] }) = some State.reset ∧
    ({ p1End with ecode := 6 } : Block).ecode ≠ 0 ∧ State.reset.block.ecode ≠ 6 := by decide

theorem witness_EcodeBlocksNothing :
    ∀ d, Instr.comp ≠ .rdStatus d := fun _ => by simp

theorem witness_WriteElsewhereIsRefused :
    Instr.wellFormed (.wrRo01 0x01 0) = true ∧
    Instr.wellFormed (.wrRo08To0F 0x08 0) = true ∧
    Instr.wellFormed (.wrRo08To0F 0x0F 0) = true ∧
    Instr.wellFormed (.wrRo10To17 0x10 0) = true ∧
    Instr.wellFormed (.wrRo10To17 0x17 0) = true ∧
    Instr.wellFormed (.wrRo18To19 0x18 0) = true ∧
    Instr.wellFormed (.wrRo18To19 0x19 0) = true ∧
    Instr.wellFormed (.wrRsvd1ATo1B 0x1A 0) = true ∧
    Instr.wellFormed (.wrRsvd1ATo1B 0x1B 0) = true ∧
    Instr.wellFormed (.wrRsvd1CTo1F 0x1C 0) = true ∧
    Instr.wellFormed (.wrRsvd1CTo1F 0x1F 0) = true ∧
    Instr.wellFormed (.wrRsvd20To3F 0x20 0) = true ∧
    Instr.wellFormed (.wrRsvd20To3F 0x3F 0) = true ∧
    Instr.wellFormed (.wrRsvd40To7F 0x40 0) = true ∧
    Instr.wellFormed (.wrRsvd40To7F 0x7F 0) = true ∧
    Instr.wrRo18To19 0x19 0 ∈ [Instr.wrRo01 0x19 0, .wrRo18To19 0x19 0] ∧
    Instr.wrRsvd1ATo1B 0x1A 0 ∈ [Instr.wrRsvd1ATo1B 0x1A 0] := by decide

theorem witness_ReservedReadIsRefused :
    Instr.rdRsvd40To7F 0x7F 0 ∈ [Instr.rdRsvd1ATo1B 0x7F 0, .rdRsvd40To7F 0x7F 0] := by decide

theorem witness_ReservedOpcodeIsRefused :
    Instr.cmdRsvdB31 0xFFFFFFFF ∈ [Instr.cmdRsvd6To7 0xFFFFFFFF, .cmdRsvdB31 0xFFFFFFFF] := by decide

theorem witness_OnlySixOpcodesAreCommands :
    6 ≤ (6 : Data).toNat ∧ 6 ≤ (0xFFFFFFFF : Data).toNat := by decide

theorem witness_AddressClassesAreRefused :
    (0x01 : Addr).toNat = 1 ∧ (8 ≤ (0x08 : Addr).toNat ∧ (0x08 : Addr).toNat ≤ 25) ∧
    (8 ≤ (0x19 : Addr).toNat ∧ (0x19 : Addr).toNat ≤ 25) ∧ 26 ≤ (0x1A : Addr).toNat ∧ 26 ≤ (0x7F : Addr).toNat := by decide

theorem witness_ReadExtendsTheRegister :
    (Instr.rdPavg 0, 3821) ∈ [(Instr.rdPavg 0, negatives.pavg.toNat)] ∧
    (Instr.rdTavg 0, -1) ∈ [(Instr.rdTavg 0, negatives.tavg.toInt)] := by decide

theorem witness_UnusedDataBitsAreIgnored :
    2 ≤ (0x02 : Addr).toNat ∧ (0x07 : Addr).toNat ≤ 7 ∧
    (0x12345678 : Data).toNat % 65536 = (0xFFFF5678 : Data).toNat % 65536 := by decide

theorem witness_ReadsRepeatAndWritesAreIdempotent :
    (0x00 : Addr).toNat ≤ 25 ∧ (0x19 : Addr).toNat ≤ 25 ∧ 2 ≤ (0x02 : Addr).toNat ∧ (0x07 : Addr).toNat ≤ 7 := by decide

theorem witness_CalExtractsTheCoefficients :
    withWords.calv = false ∧ withWords.w1v = true ∧ withWords.w2v = true ∧ withWords.w3v = true ∧ withWords.w4v = true := by decide

theorem witness_CalIsRefusedTwiceOrEarly :
    p1End.calv = true ∧ Block.reset.calv = false ∧
    ¬ (Block.reset.w1v = true ∧ Block.reset.w2v = true ∧ Block.reset.w3v = true ∧ Block.reset.w4v = true) ∧
    ¬ (({ withWords with w4v := false } : Block).w1v = true ∧ ({ withWords with w4v := false } : Block).w4v = true) := by decide

theorem witness_WordsAreRecoverableFromCoefficients :
    withWords.calv = false ∧ withWords.w1v = true ∧ withWords.w2v = true ∧ withWords.w3v = true ∧ withWords.w4v = true := by decide

theorem witness_CoefficientRangesAreExact :
    withWords.calv = false ∧ withWords.w1v = true ∧ withWords.w2v = true ∧ withWords.w3v = true ∧ withWords.w4v = true ∧
    withWords.w1 = 0x487C ∧ withWords.w2 = 0xC01F ∧ withWords.w3 = 0x5752 ∧ withWords.w4 = 0x6DB3 ∧
    8191 ≤ 8191 ∧ 1023 ≤ 1023 ∧ 511 ≤ 511 ∧ 4095 ≤ 4095 ∧ 127 ≤ 127 := by decide

theorem witness_CoefficientsAreFixedOnceReady :
    (nextOf (step { machine p1End with pending := [.transaction 0x8000000001] })).isSome = true ∧ p1End.calv = true := by decide

theorem witness_OnlyCalMakesReady :
    (nextOf (exec .cal (machine withWords))).map (fun t => t.block.calv) = some true ∧ withWords.calv = false := by decide

theorem witness_CompWritesItsResultsOnly :
    ref.calv = true ∧ ref.d1v = true ∧ ref.d2v = true := by decide

theorem witness_CompOffset :
    ref.calv = true ∧ ref.d1v = true ∧ ref.d2v = true ∧ ref.CoefficientRanges := by decide

theorem witness_CompIsAPureFunction :
    ref.calv = true ∧ ref.d1v = true ∧ ref.d2v = true := by decide

theorem witness_CompIsRefusedWithoutInputs :
    Block.reset.calv = false ∧ ({ ref with d1v := false } : Block).calv = true ∧
    ({ ref with d1v := false } : Block).d1v = false ∧ ({ ref with d2v := false } : Block).d2v = false := by decide

theorem witness_CompBaselineAndDelta :
    (ready 8191 8191 1023 511 4095 127 0 0).calv = true ∧ (ready 8191 8191 1023 511 4095 127 0 0).d1v = true ∧ (ready 8191 8191 1023 511 4095 127 0 0).d2v = true ∧
    (ready 8191 8191 1023 511 4095 127 0 0).d2 = 0 ∧ (ready 8191 8191 1023 511 4095 127 0 0).c5 = 4095 ∧
    (ready 0 0 0 0 0 0 65535 65535).d2 = 65535 ∧ (ready 0 0 0 0 0 0 65535 65535).c5 = 0 := by decide

theorem witness_CompSensitivity :
    (ready 0 0 1023 0 4095 0 0 0).calv = true ∧ (ready 0 0 1023 0 4095 0 0 0).d1v = true ∧ (ready 0 0 1023 0 4095 0 0 0).d2v = true ∧
    (ready 0 0 1023 0 4095 0 0 0).c1 = 0 ∧ (ready 0 0 1023 0 4095 0 0 0).c3 = 1023 ∧
    (ready 0 0 1023 0 4095 0 0 0).compensate.dt.toInt = -42760 := by decide

theorem witness_CompPressure :
    (ready 2319 4864 349 219 2002 51 0 26603).calv = true ∧ (ready 2319 4864 349 219 2002 51 0 26603).d1v = true ∧ (ready 2319 4864 349 219 2002 51 0 26603).d2v = true ∧
    (ready 2319 4864 349 219 2002 51 0 26603).valPx = -14230 ∧
    (ready 8191 8191 1023 511 4095 127 65535 65535).valPx = 118589 ∧
    ref.compensate.povf = false ∧ (ready 2319 4864 349 219 2002 51 0 26603).compensate.povf = true := by decide

theorem witness_CompFullPressureRange :
    (ready 8191 0 1023 0 0 0 65535 65535).calv = true ∧ (ready 8191 0 1023 0 0 0 65535 65535).d1v = true ∧ (ready 8191 0 1023 0 0 0 65535 65535).d2v = true ∧
    (ready 8191 0 1023 0 0 0 65535 65535).CoefficientRanges ∧ (ready 8191 8191 1023 511 0 0 0 65535).CoefficientRanges ∧
    (ready 8191 0 1023 0 0 0 65535 65535).d1 = 65535 ∧ (ready 8191 8191 1023 511 0 0 0 65535).d1 = 0 := by decide

theorem witness_CompSecondOrderDelta :
    (ready 2319 4864 349 219 2002 51 17788 25759).calv = true ∧ (ready 2319 4864 349 219 2002 51 17788 25759).d1v = true ∧ (ready 2319 4864 349 219 2002 51 17788 25759).d2v = true ∧
    (ready 2319 4864 349 219 2002 51 17788 25759).compensate.dt.toInt = -257 ∧
    (ready 2319 4864 349 219 2002 51 17788 26399).compensate.dt.toInt = 383 ∧
    (ready 2319 4864 349 219 2002 51 17788 26400).compensate.dt.toInt = 384 := by decide

theorem witness_SecondOrderDeltaIsMonotone :
    (-42760 : Int) ≤ 895 ∧ (895 : Int) ≤ 896 ∧ (896 : Int) ≤ 55535 := by decide

theorem witness_CompTemperature :
    ref.calv = true ∧ ref.d1v = true ∧ ref.d2v = true := by decide

theorem witness_TemperatureIsAtMostFirstOrder :
    (ref).calv = true ∧ (ref).d1v = true ∧ (ref).d2v = true ∧ ref.c6 = 51 ∧ ref.compensate.dt.toInt = 587 ∧
    (ready 2319 4864 349 219 2002 51 17788 31016).c6 = 51 ∧
    (ready 2319 4864 349 219 2002 51 17788 31016).compensate.dt.toInt = 5000 ∧
    (ready 2319 4864 349 219 2002 51 17788 25760).compensate.dt.toInt = -256 := by decide

theorem witness_CompCornerCases :
    (ready 2319 4864 349 219 2002 51 17788 26016).calv = true ∧ (ready 2319 4864 349 219 2002 51 17788 26016).d1v = true ∧ (ready 2319 4864 349 219 2002 51 17788 26016).d2v = true ∧
    (ready 2319 4864 349 219 2002 51 17788 26016).compensate.dt.toInt = 0 ∧
    (ready 2319 4864 349 219 2002 51 14859 26603).compensate.off.toInt = 14859 ∧ (ready 0 0 0 0 0 0 0 0).c5 = 0 := by decide

theorem witness_AccAddsTheReading :
    p1End.resv = true ∧ ({ p1End with accn := 65534 } : Block).accn ≠ 65535 ∧
    p1End.accp.toNat + p1End.p.toNat < 4294967296 ∧ -2147483648 ≤ p1End.acct.toInt + p1End.t.toInt ∧
    p1End.acct.toInt + p1End.t.toInt < 2147483648 ∧ Block.reset.resv = false ∧
    ({ p1End with accn := 65535 } : Block).accn = 65535 := by decide

/-- V-AVG-12's start, a state of the invariant at the last count ACC accepts. -/
def nearlyFull : Block := { p1End with accp := 262201534, acct := 15924762, accn := 65534 }

theorem nearlyFull_inv : nearlyFull.Inv :=
  ⟨by decide, by decide, by decide, by decide, by decide, by decide, by decide, by decide, by decide, by decide, by decide⟩

theorem witness_SumsNeverOverflow :
    nearlyFull.Inv ∧ nearlyFull.resv = true ∧ nearlyFull.accn ≠ 65535 := ⟨nearlyFull_inv, by decide, by decide⟩

theorem witness_AvgDividesTheSums :
    nearlyFull.accn ≠ 0 ∧ nearlyFull.accp.toNat / nearlyFull.accn.toNat < 65536 ∧ 0 ≤ nearlyFull.acct.toInt ∧
    nearlyFull.acct.toInt / nearlyFull.accn.toNat < 32768 ∧ negatives.acct.toInt < 0 ∧
    -negatives.acct.toInt / negatives.accn.toNat ≤ 32768 ∧ Block.reset.accn = 0 := by decide

theorem witness_MeansFitTheirRegisters :
    nearlyFull.Inv ∧ nearlyFull.accn ≠ 0 := ⟨nearlyFull_inv, by decide⟩

/-- The invariant with a negative temperature sum: P4 after line 18, with the results of line 15. -/
def negativeSums (acct : Int) : Block :=
  { ref with
    d2 := 23344, ut1 := 26016, dt := BitVec.ofInt 32 (-2672), off := 14884, sens := 3979,
    dt2 := BitVec.ofInt 32 (-2727), p := 3821, t := BitVec.ofInt 16 (-2), resv := true,
    accp := 7642, acct := BitVec.ofInt 32 acct, accn := 2 }

theorem negativeSums_inv : (negativeSums (-3)).Inv ∧ (negativeSums (-7)).Inv ∧ (negativeSums 7).Inv := by
  refine ⟨?_, ?_, ?_⟩ <;>
  exact ⟨by decide, by decide, by decide, by decide, by decide, by decide, by decide, by decide, by decide, by decide,
    by decide⟩

theorem witness_TemperatureMeanTruncatesTowardZero :
    ((negativeSums (-3)).Inv ∧ (negativeSums (-7)).Inv ∧ (negativeSums 7).Inv) ∧
    (negativeSums (-3)).accn = 2 ∧ (negativeSums (-3)).acct.toInt = -3 ∧ (negativeSums (-7)).acct.toInt = -7 ∧
    (negativeSums 7).acct.toInt = 7 ∧ (negativeSums 7).accn ≠ 0 := ⟨negativeSums_inv, by decide⟩

theorem witness_MeanOfEqualReadings :
    ({ p1End with accp := 19105, acct := BitVec.ofInt 32 (-5), accn := 5 } : Block).accn ≠ 0 ∧
    (19105 : BitVec 32).toNat = (5 : BitVec 16).toNat * (3821 : BitVec 16).toNat ∧
    (BitVec.ofInt 32 (-5)).toInt = (5 : BitVec 16).toNat * (BitVec.ofInt 16 (-1)).toInt := by decide

theorem witness_EveryStepKeepsTheInvariant :
    nearlyFull.Inv ∧ (nextOf (step { machine nearlyFull with pending := [.transaction 0x8000000004] })).isSome = true := ⟨nearlyFull_inv, by decide⟩

theorem witness_EveryStepKeepsTheFormulas :
    nearlyFull.Coherent ∧ nearlyFull.resv = true ∧
    (nextOf (step { machine nearlyFull with pending := [.transaction 0x8000000002] })).isSome = true := ⟨⟨by decide, by decide, by decide, by decide, by decide, by decide⟩, by decide, by decide⟩

theorem witness_OnlyItsWriterChangesARegister :
    (nextOf (exec .nop (machine p1End))).isSome = true ∧ (∀ d, Instr.nop ≠ .wrW1 d) ∧ (∀ d, Instr.nop ≠ .wrW2 d) ∧
    (∀ d, Instr.nop ≠ .wrW3 d) ∧ (∀ d, Instr.nop ≠ .wrW4 d) ∧ (∀ d, Instr.nop ≠ .wrD1 d) ∧ (∀ d, Instr.nop ≠ .wrD2 d) ∧
    Instr.nop ≠ .cal ∧ Instr.nop ≠ .comp ∧ Instr.nop ≠ .acc ∧ Instr.nop ≠ .aclr ∧ Instr.nop ≠ .avg := by
  refine ⟨by decide, ?_⟩
  simp

theorem witness_ValidFlagsAreClearedOnlyByReset :
    (nextOf (step { machine { p1End with avgv := true } with pending := [.transaction 0x8000000003] })).isSome = true ∧
    (∀ rest, ({ machine { p1End with avgv := true } with pending := [.transaction 0x8000000003] } : State).pending ≠
      .reset :: rest) ∧
    p1End.w1v = true ∧ p1End.w2v = true ∧ p1End.w3v = true ∧ p1End.w4v = true ∧ p1End.d1v = true ∧ p1End.d2v = true ∧
    p1End.calv = true ∧ p1End.resv = true := ⟨by decide, by simp, by decide⟩

theorem witness_InitMakesReadyOrLeavesUninitialized :
    State.reset.pending = [] ∧ State.reset.block.calv = false ∧
    (initSequence true [.word 1, .word 2, .word 3, .readError]).ended ≠ .done ∧ (initSequence false []).ended ≠ .done := by decide

theorem witness_ReadOnceAnswersTheReading :
    (machine ref).pending = [] ∧ (machine ref).block.calv = true := by decide

theorem witness_ReadAvgAnswersTheMeans :
    (machine ref).pending = [] ∧ (machine ref).block.calv = true ∧
    [((26603 : BitVec 16), (14859 : BitVec 16))] ≠ [] ∧ [((26603 : BitVec 16), (14859 : BitVec 16))].length ≤ 65535 := by decide

theorem witness_ReadAvgOfNoneIsRefused :
    (machine p1End).pending = [] := by decide

theorem witness_ReadOnceStoppedKeepsTheReading :
    (machine p1End).pending = [] ∧ (runActions readOnceActions [.writeError]).ended ≠ .done ∧
    (runActions readOnceActions [.word 26603, .readError]).ended ≠ .done ∧ (runActions readOnceActions [.word 26603]).ended ≠ .done := by decide

end Sys2Proof.Tests
end

section
/-! The decoder by fields, and the effect of a decoded word: the facts that tie the 80 rows to the transaction function
(R12, R55, R69 to R72). -/

namespace Sys2Proof

/-- The name found at an address is the name of that address (R41). -/
theorem addr_of_ofAddr_eq_some {a : Addr} {r : RegName} (h : RegName.ofAddr a = some r) : r.addr = a := by
  simpa using List.find?_some h

/-- The input register found at an address is the one of that address (R39). -/
theorem addr_of_inputOfAddr_eq_some {a : Addr} {r : InputReg} (h : InputReg.ofAddr a = some r) : r.name.addr = a := by
  simpa using List.find?_some h

/-- Only a reserved address has no name (R41). -/
theorem le_toNat_of_ofAddr_eq_none : ∀ a : Addr, RegName.ofAddr a = none → 0x1A ≤ a.toNat := by decide

/-- An address other than `CMD` at which no input register lies is `STATUS` or at least 0x08 (R39, R41). -/
theorem toNat_of_inputOfAddr_eq_none :
    ∀ a : Addr, InputReg.ofAddr a = none → a ≠ 0#7 → a.toNat = 0x01 ∨ 0x08 ≤ a.toNat := by decide

theorem decode_of_write {tw : TxnWord} (h : txnW tw = true) : decode tw = decodeWrite (txnAddr tw) (txnData tw) := by
  simp [decode, h]

theorem decode_of_read {tw : TxnWord} (h : txnW tw = false) : decode tw = decodeRead (txnAddr tw) (txnData tw) := by
  simp [decode, h]

@[simp] theorem decodeWrite_cmd (d : Data) : decodeWrite 0#7 d = decodeCommand d := rfl

end Sys2Proof

namespace Sys2Proof.Machine

/-- A write at an input register's address is the write of that register (R55, R68). -/
theorem effect_decodeWrite_input (r : InputReg) (d : Data) (b : Block) :
    effect (decodeWrite r.name.addr d) b = b.writeAt r d := by cases r <;> rfl

/-- A read at an implemented address is the read of its register (R55, R71). -/
theorem effect_decodeRead_addr (r : RegName) (d : Data) (b : Block) :
    effect (decodeRead r.addr d) b = b.readAt r := by cases r <;> rfl

/-- Every opcode from 6 on, whatever its row, is refused as a command (R69). -/
theorem effect_decodeCommand_reserved {op : Data} (h : 6 ≤ op.toNat) (b : Block) :
    effect (decodeCommand op) b = b.refuseCommand := by
  unfold decodeCommand
  split
  case h_7 => split <;> rfl
  all_goals omega

/-- Every write outside `CMD` and the input registers, whatever its row, is refused by its address (R70). -/
theorem effect_decodeWrite_refused {a : Addr} (h : a.toNat = 0x01 ∨ 0x08 ≤ a.toNat) (d : Data) (b : Block) :
    effect (decodeWrite a d) b = b.refuseWrite a := by
  unfold decodeWrite
  split
  case h_2 => rfl
  case h_9 => split_ifs <;> rfl
  all_goals omega

/-- Every read of a reserved address, whatever its row, is refused (R72). -/
theorem effect_decodeRead_reserved {a : Addr} (h : 0x1A ≤ a.toNat) (d : Data) (b : Block) :
    effect (decodeRead a d) b = b.refuseRead := by
  unfold decodeRead
  split
  case h_27 => split_ifs <;> rfl
  all_goals omega

/-- A write to `CMD` does what the transaction function says of its opcode (R69). -/
theorem effect_decodeCommand (op : Data) (b : Block) : effect (decodeCommand op) b = b.command op := by
  unfold Block.command
  split_ifs with h0 h1 h2 h3 h4 h5
  case neg => exact effect_decodeCommand_reserved (by bv_omega) b
  all_goals subst op; rfl

/-- A write does what the transaction function says of its address (R55, R68 to R70). -/
theorem effect_decode_of_write {tw : TxnWord} (hw : txnW tw = true) (b : Block) :
    effect (decode tw) b = b.transact tw := by
  rw [decode_of_write hw, Block.transact, if_pos hw]
  split_ifs with hc
  · rw [hc, decodeWrite_cmd, effect_decodeCommand]
  · cases hr : InputReg.ofAddr (txnAddr tw) with
    | some r => rw [← addr_of_inputOfAddr_eq_some hr, effect_decodeWrite_input]
    | none => exact effect_decodeWrite_refused (toNat_of_inputOfAddr_eq_none _ hr hc) _ b

/-- A read does what the transaction function says of its address (R55, R71, R72). -/
theorem effect_decode_of_read {tw : TxnWord} (hw : txnW tw = false) (b : Block) :
    effect (decode tw) b = b.transact tw := by
  rw [decode_of_read hw, Block.transact, if_neg (by simp [hw])]
  cases hr : RegName.ofAddr (txnAddr tw) with
  | some r => rw [← addr_of_ofAddr_eq_some hr, effect_decodeRead_addr]
  | none => exact effect_decodeRead_reserved (le_toNat_of_ofAddr_eq_none _ hr) _ b

/-- The 80 decoded rows and the transaction function have the same effect (R12). -/
theorem effect_decode (tw : TxnWord) (b : Block) : effect (decode tw) b = b.transact tw := by
  cases hw : txnW tw with
  | true => exact effect_decode_of_write hw b
  | false => exact effect_decode_of_read hw b

/-- A step takes the presented transaction and executes its decoding (R12, R49). -/
theorem step_of_transaction {s : State} {tw : TxnWord} {rest : List HostEvent}
    (h : s.pending = .transaction tw :: rest) : step s = exec (decode tw) { s with pending := rest } := by
  simp [step, State.fetch, h]

/-- Settles O5: the presented transaction is the one fetched. -/
theorem stepRunsPresentedTransaction : Obligations.StepRunsPresentedTransaction :=
  fun _ _ _ h => step_of_transaction h

/-- Settles O9: a step answers the effect of the decoded word, and that effect is `Block.transact`, by the word's `W` and
`ADDR`. -/
theorem stepIsTheTransactionFunction : Obligations.StepIsTheTransactionFunction := by
  intro s tw rest h
  rw [step_of_transaction h, exec_eq_answer, effect_decode, answer_eq_next]

end Sys2Proof.Machine
end

section
/-! What a transaction and a step can do to the block, register by register and flag by flag (R13): the writers, the valid
flags and the calibration. -/

namespace Sys2Proof.Machine

/-! One transaction, one step. -/

/-- The response and the block of `return OK`, as a next state (R11, R130). -/
theorem answer_returnOk (s : State) (b : Block) (v : Data) :
    s.answer (b.returnOk v) = .next (s.answeredWith b ⟨.ok, v⟩) := rfl

/-- Recording a refusal is the refused block of R132 and R133. -/
theorem record_eq_refusedAs (b : Block) {c : Status} (hc : c ≠ .ok) : b.record c = b.refusedAs c.code := by
  simp [Block.record, Block.refusedAs, hc]

/-- The response and the block of `raise`, as a next state (R130, R132, R133). -/
theorem answer_raise (s : State) (b : Block) {c : Status} (hc : c ≠ .ok) :
    s.answer (b.raise c) = .next (s.answeredWith (b.refusedAs c.code) ⟨c, 0#32⟩) := by
  rw [← record_eq_refusedAs b hc]; rfl

theorem block_of_exec {i : Instr} {s t : State} (h : exec i s = .next t) : t.block = (effect i s.block).1 := by
  rw [exec_eq_answer, answer_eq_next_iff] at h
  exact h.1

/-- The blocks an effect can leave; a transaction that changes nothing records the status OK. -/
theorem effect_block_cases (i : Instr) (b : Block) :
    (∃ c, (effect i b).1 = b.record c) ∨
    (∃ r d, i = writeInstr r d ∧ (effect i b).1 = b.storeInput r (imm16 d)) ∨
    (i = .cal ∧ b.calv = false ∧ b.wordsWritten = true ∧ (effect i b).1 = b.loadCoefficients) ∨
    (i = .comp ∧ b.calv = true ∧ b.sampleWritten = true ∧ (effect i b).1 = b.compensate) ∨
    (i = .aclr ∧ (effect i b).1 = b.clearSums) ∨
    (i = .acc ∧ b.resv = true ∧ b.accn ≠ 65535#16 ∧ (effect i b).1 = b.accumulate) ∨
    (i = .avg ∧ b.accn ≠ 0#16 ∧ (effect i b).1 = b.divide) := by
  rcases effect_cases i b with ⟨v, e⟩ | ⟨c, -, e⟩ | ⟨r, d, hi, e⟩ | ⟨hi, hc, hw, e⟩ | ⟨hi, hc, hs, e⟩ | ⟨hi, e⟩ |
      ⟨hi, hr, hn, e⟩ | ⟨hi, hn, e⟩
  · exact .inl ⟨.ok, by simp [e]⟩
  · exact .inl ⟨c, by simp [e]⟩
  · exact .inr (.inl ⟨r, d, hi, by rw [e]; rfl⟩)
  · exact .inr (.inr (.inl ⟨hi, hc, hw, by rw [e]; rfl⟩))
  · exact .inr (.inr (.inr (.inl ⟨hi, hc, hs, by rw [e]; rfl⟩)))
  · exact .inr (.inr (.inr (.inr (.inl ⟨hi, by rw [e]; rfl⟩))))
  · exact .inr (.inr (.inr (.inr (.inr (.inl ⟨hi, hr, hn, by rw [e]; rfl⟩)))))
  · exact .inr (.inr (.inr (.inr (.inr (.inr ⟨hi, hn, by rw [e]; rfl⟩)))))

/-- A step leaves the block of some transaction's effect (a waiting step that of NOP), or it applied the reset event. -/
theorem step_block_cases {s t : State} (h : step s = .next t) :
    (∃ i, t.block = (effect i s.block).1) ∨ (∃ rest, s.pending = .reset :: rest ∧ t.block = Block.reset) := by
  rcases step_cases s with ⟨-, e⟩ | ⟨rest, hp, e⟩ | ⟨tw, rest, -, e⟩
  · cases e.symm.trans h
    exact .inl ⟨.nop, rfl⟩
  · cases e.symm.trans h
    exact .inr ⟨rest, hp, rfl⟩
  · exact .inl ⟨decode tw, block_of_exec (s := { s with pending := rest }) (e.symm.trans h)⟩

/-- Settles O6: the waiting step. -/
theorem stepWaitsWhileNothingIsPresented : Obligations.StepWaitsWhileNothingIsPresented := step_idle

/-! The input registers, by name. -/

/-- The value an input register holds (R15, R18). -/
def Block.input (b : Block) : InputReg → BitVec 16
  | .w1 => b.w1
  | .w2 => b.w2
  | .w3 => b.w3
  | .w4 => b.w4
  | .d1 => b.d1
  | .d2 => b.d2

/-- The written-since-reset flag of an input register (R16, R19). -/
def Block.inputValid (b : Block) : InputReg → Bool
  | .w1 => b.w1v
  | .w2 => b.w2v
  | .w3 => b.w3v
  | .w4 => b.w4v
  | .d1 => b.d1v
  | .d2 => b.d2v

@[simp] theorem input_storeInput (b : Block) (r r' : InputReg) (v : BitVec 16) :
    (b.storeInput r' v).input r = if r' = r then v else b.input r := by cases r <;> cases r' <;> rfl

@[simp] theorem inputValid_storeInput (b : Block) (r r' : InputReg) (v : BitVec 16) :
    (b.storeInput r' v).inputValid r = if r' = r then true else b.inputValid r := by cases r <;> cases r' <;> rfl

/-- Only `WR` of an input register changes it or its flag (R13). -/
theorem effect_input {i : Instr} {r : InputReg} (h : ∀ d, i ≠ writeInstr r d) (b : Block) :
    (effect i b).1.input r = b.input r ∧ (effect i b).1.inputValid r = b.inputValid r := by
  rcases effect_block_cases i b with ⟨c, e⟩ | ⟨r', d, hi, e⟩ | ⟨-, -, -, e⟩ | ⟨-, -, -, e⟩ | ⟨-, e⟩ | ⟨-, -, -, e⟩ |
      ⟨-, -, e⟩ <;> rw [e]
  case inr.inl =>
    have hr : r' ≠ r := fun hr => h d (hr ▸ hi)
    simp [hr]
  all_goals cases r <;> simp [Block.input, Block.inputValid]

/-- An input register's flag that is 1 stays 1 over a transaction (R16, R19). -/
theorem effect_keeps_inputValid (i : Instr) {b : Block} {r : InputReg} (h : b.inputValid r = true) :
    (effect i b).1.inputValid r = true := by
  by_cases hi : ∃ d, i = writeInstr r d
  · obtain ⟨d, rfl⟩ := hi
    have e : (effect (writeInstr r d) b).1 = b.storeInput r (imm16 d) := by cases r <;> rfl
    simp [e]
  · rw [(effect_input (fun d hd => hi ⟨d, hd⟩) b).2, h]

/-! The four groups of registers that a command writes, each with its flags. -/

/-- `b'` holds the calibration of `b`: the registers and the flag CAL writes (R75). -/
def Block.SameCalibration (b b' : Block) : Prop :=
  b'.c1 = b.c1 ∧ b'.c2 = b.c2 ∧ b'.c3 = b.c3 ∧ b'.c4 = b.c4 ∧ b'.c5 = b.c5 ∧ b'.c6 = b.c6 ∧ b'.calv = b.calv

/-- `b'` holds the result of `b`: the registers and flags COMP writes (R95). -/
def Block.SameResult (b b' : Block) : Prop :=
  b'.ut1 = b.ut1 ∧ b'.dt = b.dt ∧ b'.off = b.off ∧ b'.sens = b.sens ∧ b'.dt2 = b.dt2 ∧ b'.p = b.p ∧ b'.t = b.t ∧
    b'.povf = b.povf ∧ b'.resv = b.resv

/-- `b'` holds the sums of `b`: the registers ACC and ACLR write (R105, R106). -/
def Block.SameSums (b b' : Block) : Prop := b'.accp = b.accp ∧ b'.acct = b.acct ∧ b'.accn = b.accn

/-- `b'` holds the means of `b`: the registers and the flag AVG writes (R108). -/
def Block.SameMeans (b b' : Block) : Prop := b'.pavg = b.pavg ∧ b'.tavg = b.tavg ∧ b'.avgv = b.avgv

/-- A write to an input register leaves everything the commands write (R68). -/
theorem storeInput_frame (b : Block) (r : InputReg) (v : BitVec 16) :
    b.SameCalibration (b.storeInput r v) ∧ b.SameResult (b.storeInput r v) ∧ b.SameSums (b.storeInput r v) ∧
      b.SameMeans (b.storeInput r v) := by
  cases r <;> simp [Block.SameCalibration, Block.SameResult, Block.SameSums, Block.SameMeans]

/-- Only a successful CAL, of an Uninitialized block with all words written, changes the calibration (R20, R75, R76). -/
theorem effect_calibration (i : Instr) (b : Block) :
    b.SameCalibration (effect i b).1 ∨
    (i = .cal ∧ b.calv = false ∧ b.wordsWritten = true ∧ (effect i b).1 = b.loadCoefficients) := by
  rcases effect_block_cases i b with ⟨c, e⟩ | ⟨r, d, -, e⟩ | hcal | ⟨-, -, -, e⟩ | ⟨-, e⟩ | ⟨-, -, -, e⟩ | ⟨-, -, e⟩
  case inr.inl => exact .inl (e ▸ (storeInput_frame b r _).1)
  case inr.inr.inl => exact .inr hcal
  all_goals exact .inl (by simp [e, Block.SameCalibration])

/-- Only a successful COMP changes the result held (R95). -/
theorem effect_result (i : Instr) (b : Block) :
    b.SameResult (effect i b).1 ∨ (i = .comp ∧ (effect i b).1 = b.compensate) := by
  rcases effect_block_cases i b with ⟨c, e⟩ | ⟨r, d, -, e⟩ | ⟨-, -, -, e⟩ | ⟨hi, -, -, e⟩ | ⟨-, e⟩ | ⟨-, -, -, e⟩ |
      ⟨-, -, e⟩
  case inr.inl => exact .inl (e ▸ (storeInput_frame b r _).2.1)
  case inr.inr.inr.inl => exact .inr ⟨hi, e⟩
  all_goals exact .inl (by simp [e, Block.SameResult])

/-- Only ACC and ACLR change the sums (R105, R106). -/
theorem effect_sums {i : Instr} (hacc : i ≠ .acc) (haclr : i ≠ .aclr) (b : Block) : b.SameSums (effect i b).1 := by
  rcases effect_block_cases i b with ⟨c, e⟩ | ⟨r, d, -, e⟩ | ⟨-, -, -, e⟩ | ⟨-, -, -, e⟩ | ⟨hi, -⟩ | ⟨hi, -⟩ | ⟨-, -, e⟩
  case inr.inl => exact e ▸ (storeInput_frame b r _).2.2.1
  case inr.inr.inr.inr.inl => exact absurd hi haclr
  case inr.inr.inr.inr.inr.inl => exact absurd hi hacc
  all_goals simp [e, Block.SameSums]

/-- Only a successful AVG changes the means (R108). -/
theorem effect_means (i : Instr) (b : Block) :
    b.SameMeans (effect i b).1 ∨ (i = .avg ∧ (effect i b).1 = b.divide) := by
  rcases effect_block_cases i b with ⟨c, e⟩ | ⟨r, d, -, e⟩ | ⟨-, -, -, e⟩ | ⟨-, -, -, e⟩ | ⟨-, e⟩ | ⟨-, -, -, e⟩ |
      ⟨hi, -, e⟩
  case inr.inl => exact .inl (e ▸ (storeInput_frame b r _).2.2.2)
  case inr.inr.inr.inr.inr.inr => exact .inr ⟨hi, e⟩
  all_goals exact .inl (by simp [e, Block.SameMeans])

/-- Settles O54: an input register by `effect_input`, each other group by the lemma that names its writer. -/
theorem onlyItsWriterChangesARegister : Obligations.OnlyItsWriterChangesARegister := by
  intro i s t h
  rw [block_of_exec h]
  exact ⟨fun hi => effect_input (r := .w1) hi s.block, fun hi => effect_input (r := .w2) hi s.block,
    fun hi => effect_input (r := .w3) hi s.block, fun hi => effect_input (r := .w4) hi s.block,
    fun hi => effect_input (r := .d1) hi s.block, fun hi => effect_input (r := .d2) hi s.block,
    fun hi => (effect_calibration i s.block).resolve_right fun hcal => hi hcal.1,
    fun hi => (effect_result i s.block).resolve_right fun hcomp => hi hcomp.1,
    fun hacc haclr => effect_sums hacc haclr s.block,
    fun hi => (effect_means i s.block).resolve_right fun havg => hi havg.1⟩

/-! The flags CALV, RESV and AVGV. -/

/-- A Ready block keeps its calibration over every transaction (R17, R20, R80). -/
theorem effect_calibration_of_ready (i : Instr) {b : Block} (h : b.calv = true) : b.SameCalibration (effect i b).1 :=
  (effect_calibration i b).resolve_right fun ⟨_, hc, _⟩ => by simp [h] at hc

theorem effect_keeps_calv (i : Instr) {b : Block} (h : b.calv = true) : (effect i b).1.calv = true := by
  obtain ⟨-, -, -, -, -, -, e⟩ := effect_calibration_of_ready i h
  rw [e, h]

theorem effect_keeps_resv (i : Instr) {b : Block} (h : b.resv = true) : (effect i b).1.resv = true := by
  rcases effect_result i b with ⟨-, -, -, -, -, -, -, -, e⟩ | ⟨-, e⟩
  · rw [e, h]
  · rw [e, compensate_resv]

theorem effect_keeps_avgv (i : Instr) {b : Block} (h : b.avgv = true) : (effect i b).1.avgv = true := by
  rcases effect_means i b with ⟨-, -, e⟩ | ⟨-, e⟩
  · rw [e, h]
  · rw [e, divide_avgv]

/-- Settles O55: without the reset event a step leaves the block of an effect, and no effect clears a valid flag. -/
theorem validFlagsAreClearedOnlyByReset : Obligations.ValidFlagsAreClearedOnlyByReset := by
  intro s t h hreset
  obtain ⟨i, e⟩ := (step_block_cases h).resolve_right fun ⟨rest, hp, _⟩ => hreset rest hp
  rw [e]
  exact ⟨effect_keeps_inputValid i (r := .w1), effect_keeps_inputValid i (r := .w2),
    effect_keeps_inputValid i (r := .w3), effect_keeps_inputValid i (r := .w4),
    effect_keeps_inputValid i (r := .d1), effect_keeps_inputValid i (r := .d2),
    effect_keeps_calv i, effect_keeps_resv i, effect_keeps_avgv i⟩

/-- Settles O27: a step is an effect, which keeps the calibration of a Ready block, or the reset event. -/
theorem coefficientsAreFixedOnceReady : Obligations.CoefficientsAreFixedOnceReady := by
  intro s t h hready
  rcases step_block_cases h with ⟨i, e⟩ | ⟨rest, hp, -⟩
  · obtain ⟨h1, h2, h3, h4, h5, h6, hv⟩ := effect_calibration_of_ready i hready
    rw [e]
    exact .inl ⟨hv.trans hready, h1, h2, h3, h4, h5, h6⟩
  · exact .inr ⟨rest, hp⟩

theorem wordsWritten_iff (b : Block) :
    b.wordsWritten = true ↔ b.w1v = true ∧ b.w2v = true ∧ b.w3v = true ∧ b.w4v = true := by
  simp [Block.wordsWritten, and_assoc]

theorem sampleWritten_iff (b : Block) : b.sampleWritten = true ↔ b.d1v = true ∧ b.d2v = true := by
  simp [Block.sampleWritten]

/-- Settles O28: an effect that changes CALV is that of a successful CAL. -/
theorem onlyCalMakesReady : Obligations.OnlyCalMakesReady := by
  intro i s t h hbefore hafter
  rw [block_of_exec h] at hafter
  rcases effect_calibration i s.block with ⟨-, -, -, -, -, -, e⟩ | ⟨hi, -, hw, -⟩
  · simp [e, hbefore] at hafter
  · exact ⟨hi, (wordsWritten_iff _).1 hw⟩

/-! `STATUS` and `CMD` (R37). -/

/-- The number a concatenation of two words is. -/
theorem toNat_append_eq_add {m n : Nat} (x : BitVec m) (y : BitVec n) :
    (x ++ y).toNat = x.toNat * 2 ^ n + y.toNat := by
  rw [BitVec.toNat_append, ← Nat.shiftLeft_add_eq_or_of_lt y.isLt, Nat.shiftLeft_eq]

/-- The flag word as the sum of its bits (R37). -/
theorem statusWord_toNat (b : Block) :
    b.statusWord.toNat = b.calv.toNat + 2 * b.resv.toNat + 4 * b.avgv.toNat + 8 * b.povf.toNat +
      16 * b.w1v.toNat + 32 * b.w2v.toNat + 64 * b.w3v.toNat + 128 * b.w4v.toNat +
      256 * b.d1v.toNat + 512 * b.d2v.toNat + 4096 * b.ecode.toNat := by
  simp only [Block.statusWord, toNat_append_eq_add, BitVec.toNat_ofBool, BitVec.toNat_ofNat]
  omega

theorem exec_rdStatus (d : Data) (s : State) :
    exec (.rdStatus d) s = .next (s.answeredWith s.block ⟨.ok, s.block.statusWord⟩) :=
  answer_returnOk s s.block s.block.statusWord

/-- Settles O20: the two reads answer their view of the block, whose value `statusWord_toNat` gives, and the write to
`STATUS` raises E_RO. -/
theorem statusAndCmdAreViews : Obligations.StatusAndCmdAreViews :=
  ⟨fun d s => ⟨s.block.statusWord, exec_rdStatus d s, statusWord_toNat s.block⟩,
    fun d => exec_rdStatus d State.reset,
    fun _ s => answer_returnOk s s.block 0#32,
    fun _ s => answer_raise s s.block (c := .ro) (by decide)⟩

end Sys2Proof.Machine
end

section
/-! The values of COMP and their ranges (R21 to R25, R28, R85 to R93), and the registers that hold them. -/

namespace Sys2Proof.Machine

/-- A product of two integers in intervals lies between bounds that the four products of the ends lie between. -/
theorem mul_mem_of_corners {a b a₀ a₁ b₀ b₁ lo hi : Int} (ha : a₀ ≤ a ∧ a ≤ a₁) (hb : b₀ ≤ b ∧ b ≤ b₁)
    (hlo : (lo ≤ a₀ * b₀ ∧ lo ≤ a₀ * b₁) ∧ lo ≤ a₁ * b₀ ∧ lo ≤ a₁ * b₁)
    (hhi : (a₀ * b₀ ≤ hi ∧ a₀ * b₁ ≤ hi) ∧ a₁ * b₀ ≤ hi ∧ a₁ * b₁ ≤ hi) : lo ≤ a * b ∧ a * b ≤ hi := by
  obtain ⟨ha₀, ha₁⟩ := ha
  obtain ⟨hb₀, hb₁⟩ := hb
  have corner (c : Int) : (c * b₀ ≤ c * b ∧ c * b ≤ c * b₁) ∨ (c * b₁ ≤ c * b ∧ c * b ≤ c * b₀) := by
    rcases le_total 0 c with hc | hc
    · exact .inl ⟨mul_le_mul_of_nonneg_left hb₀ hc, mul_le_mul_of_nonneg_left hb₁ hc⟩
    · exact .inr ⟨mul_le_mul_of_nonpos_left hb₁ hc, mul_le_mul_of_nonpos_left hb₀ hc⟩
  have side : (a₀ * b ≤ a * b ∧ a * b ≤ a₁ * b) ∨ (a₁ * b ≤ a * b ∧ a * b ≤ a₀ * b) := by
    rcases le_total 0 b with hc | hc
    · exact .inl ⟨mul_le_mul_of_nonneg_right ha₀ hc, mul_le_mul_of_nonneg_right ha₁ hc⟩
    · exact .inr ⟨mul_le_mul_of_nonpos_right ha₁ hc, mul_le_mul_of_nonpos_right ha₀ hc⟩
  have := corner a₀
  have := corner a₁
  omega

/-! The stages (R85 to R93). -/

theorem valUt1_range (b : Block) : 10000 ≤ b.valUt1 ∧ b.valUt1 ≤ 42760 := by
  have := b.c5.isLt
  simp only [Block.valUt1, stageUt1]
  omega

theorem valDt_range (b : Block) : -42760 ≤ b.valDt ∧ b.valDt ≤ 55535 := by
  have := valUt1_range b
  have := b.d2.isLt
  simp only [Block.valDt, stageDt]
  omega

/-- What the storage widths of `C2` and `C4` alone give for `off`: it fits its register (R97). -/
theorem valOff_storageRange (b : Block) : -8760 ≤ b.valOff ∧ b.valOff ≤ 50747 := by
  have hc2 := b.c2.isLt
  have hc4 := b.c4.isLt
  have hm : -76839720 ≤ ((b.c4.toNat : Int) - 250) * b.valDt ∧ ((b.c4.toNat : Int) - 250) * b.valDt ≤ 99796395 :=
    mul_mem_of_corners (a₀ := -250) (a₁ := 1797) (by omega) (valDt_range b) (by decide) (by decide)
  simp only [Block.valOff, stageOff, sra]
  omega

/-- The range of `off` with the coefficients in the ranges of R78 (R87). -/
theorem valOff_range {b : Block} (h : b.CoefficientRanges) : 6610 ≤ b.valOff ∧ b.valOff ≤ 21729 := by
  obtain ⟨-, hc2, -, hc4, -, -⟩ := h
  have hm : -13883750 ≤ ((b.c4.toNat : Int) - 250) * b.valDt ∧ ((b.c4.toNat : Int) - 250) * b.valDt ≤ 14494635 :=
    mul_mem_of_corners (a₀ := -250) (a₁ := 261) (by omega) (valDt_range b) (by decide) (by decide)
  simp only [Block.valOff, stageOff, sra]
  omega

theorem valSens_range (b : Block) : -3384 ≤ b.valSens ∧ b.valSens ≤ 15385 := by
  have hc1 := b.c1.isLt
  have hc3 := b.c3.isLt
  have hm : -52295480 ≤ ((b.c3.toNat : Int) + 200) * b.valDt ∧ ((b.c3.toNat : Int) + 200) * b.valDt ≤ 67919305 :=
    mul_mem_of_corners (a₀ := 200) (a₁ := 1223) (by omega) (valDt_range b) (by decide) (by decide)
  simp only [Block.valSens, stageSens, sra]
  omega

/-- The range of `dt2` over the range of `dt`. With `q = dt >> 7`, the correction is at most 14028 while `q` is negative;
and up to `q = 432` it grows fast enough that only `q = 433`, the last value, reaches the upper end (R91, R92). -/
theorem stageDt2_range {dt : Int} (h : -42760 ≤ dt ∧ dt ≤ 55535) : -56788 ≤ stageDt2 dt ∧ stageDt2 dt ≤ 32099 := by
  obtain ⟨q, hq⟩ : ∃ q, q = dt / 128 := ⟨_, rfl⟩
  have hrange : -335 ≤ q ∧ q ≤ 433 := by omega
  have hsquare : q * q ≤ 187489 := by nlinarith
  have hnegative : q < 0 → q * q ≤ 112225 := fun hneg => by nlinarith
  have hgrowth : q = 433 ∨ 8 * (128 * q - 31972) ≤ q * q := by
    rcases hrange.2.eq_or_lt with hlast | hbefore
    · exact .inl hlast
    · have : 0 ≤ (432 - q) * (592 - q) := mul_nonneg (by omega) (by omega)
      exact .inr (by nlinarith)
  have hvalue : stageDt2 dt = dt - q * q / 8 := by simp [stageDt2, sra, hq]
  rcases hgrowth with rfl | hgrowth <;> omega

theorem valDt2_range (b : Block) : -56788 ≤ b.valDt2 ∧ b.valDt2 ≤ 32099 := stageDt2_range (valDt_range b)

theorem valT_range (b : Block) : -6095 ≤ b.valT ∧ b.valT ≤ 3757 := by
  have hc6 := b.c6.isLt
  have hm : -12890876 ≤ b.valDt2 * ((b.c6.toNat : Int) + 100) ∧ b.valDt2 * ((b.c6.toNat : Int) + 100) ≤ 7286473 :=
    mul_mem_of_corners (b₀ := 100) (b₁ := 227) (valDt2_range b) (by omega) (by decide) (by decide)
  simp only [Block.valT, stageT, sra]
  omega

/-! The registers after COMP hold these values: none is cut (R97). -/

theorem compensate_ut1_toInt (b : Block) : b.compensate.ut1.toInt = b.valUt1 := by
  have := valUt1_range b
  rw [compensate_ut1, toInt_ofInt_of_fits (by decide) (by omega)]

theorem compensate_dt_toInt (b : Block) : b.compensate.dt.toInt = b.valDt := by
  have := valDt_range b
  rw [compensate_dt, toInt_ofInt_of_fits (by decide) (by omega)]

theorem compensate_off_toInt (b : Block) : b.compensate.off.toInt = b.valOff := by
  have := valOff_storageRange b
  rw [compensate_off, toInt_ofInt_of_fits (by decide) (by omega)]

theorem compensate_sens_toInt (b : Block) : b.compensate.sens.toInt = b.valSens := by
  have := valSens_range b
  rw [compensate_sens, toInt_ofInt_of_fits (by decide) (by omega)]

theorem compensate_dt2_toInt (b : Block) : b.compensate.dt2.toInt = b.valDt2 := by
  have := valDt2_range b
  rw [compensate_dt2, toInt_ofInt_of_fits (by decide) (by omega)]

theorem compensate_t_toInt (b : Block) : b.compensate.t.toInt = b.valT := by
  have := valT_range b
  rw [compensate_t, toInt_ofInt_of_fits (by decide) (by omega)]

end Sys2Proof.Machine
end

section
/-! The invariant of R38: it holds at reset, and each block an effect can leave meets it. -/

namespace Sys2Proof.Machine

/-! At reset. -/

theorem reset_inv : Block.reset.Inv :=
  ⟨by decide, by decide, by decide, by decide, by decide, by decide, by decide, by decide, by decide, by decide,
    by decide⟩

theorem reset_coherent : Block.reset.Coherent := ⟨by decide, by decide, by decide, by decide, by decide, by decide⟩

/-- Settles O51. -/
theorem invariantsHoldAtReset : Obligations.InvariantsHoldAtReset := ⟨reset_inv, reset_coherent⟩

/-! A refusal, a write to an input register, CAL and COMP. -/

theorem record_codeRange {b : Block} (h : b.CodeRange) (c : Status) : (b.record c).CodeRange := by
  have := code_le c
  unfold Block.CodeRange at h ⊢
  rw [record_ecode]
  split_ifs <;> assumption

theorem inv_record {b : Block} (h : b.Inv) (c : Status) : (b.record c).Inv :=
  { h with codeRange := record_codeRange h.codeRange c }

/-- A write to an input register only sets its flag, and nothing in the invariant speaks of the words themselves. -/
theorem inv_storeInput {b : Block} (h : b.Inv) (r : InputReg) (v : BitVec 16) : (b.storeInput r v).Inv := by
  cases r <;> exact
    { h with
      readyHasWords := fun hc => by simp [h.readyHasWords hc]
      resultHasInputs := fun hr => by simp [h.resultHasInputs hr] }

/-- The two parts `C2` is put together from make 13 bits (R77). -/
theorem c2_parts_lt (w1 w2 : Nat) : (w1 &&& 7) <<< 10 ||| (w2 >>> 6 &&& 1023) < 2 ^ 13 := by
  have hhigh : w1 &&& 7 ≤ 7 := Nat.and_le_right
  have hlow : w2 >>> 6 &&& 1023 ≤ 1023 := Nat.and_le_right
  exact Nat.or_lt_two_pow (by rw [Nat.shiftLeft_eq]; omega) (by omega)

/-- `C2` is the number R75 says, in its 14 bits. -/
theorem extractC2_toNat (w1 w2 : BitVec 16) :
    (extractC2 w1 w2).toNat = (w1.toNat &&& 7) <<< 10 ||| (w2.toNat >>> 6 &&& 1023) := by
  have hall := c2_parts_lt w1.toNat w2.toNat
  have hhigh : (w1.toNat &&& 7) <<< 10 < 2 ^ 13 := Nat.left_le_or.trans_lt hall
  have hvalue : (extractC2 w1 w2).toNat =
      ((w1.toNat &&& 7) <<< 10 % 2 ^ 16 ||| (w2.toNat >>> 6 &&& 1023)) % 2 ^ 14 := rfl
  rw [hvalue, Nat.mod_eq_of_lt (b := 2 ^ 16) (by omega), Nat.mod_eq_of_lt (by omega)]

/-- `C4` is the number R75 says, in its 11 bits. -/
theorem extractC4_toNat (w4 : BitVec 16) : (extractC4 w4).toNat = w4.toNat >>> 7 &&& 2047 := by
  have hvalue : (extractC4 w4).toNat = (w4.toNat >>> 7 &&& 2047) % 2 ^ 11 := rfl
  rw [hvalue, Nat.mod_eq_of_lt (Nat.and_le_right.trans_lt (by decide))]

/-- A word has 9 bits above the 7 of `C6`, so `C4` is at most 511 (R77, R78). -/
theorem extractC4_le (w4 : BitVec 16) : (extractC4 w4).toNat ≤ 511 := by
  have := w4.isLt
  calc (extractC4 w4).toNat ≤ w4.toNat >>> 7 := extractC4_toNat w4 ▸ Nat.and_le_left
    _ ≤ 511 := by rw [Nat.shiftRight_eq_div_pow]; omega

theorem loadCoefficients_coefficientRanges (b : Block) : b.loadCoefficients.CoefficientRanges := by
  have hc2 : (extractC2 b.w1 b.w2).toNat < 2 ^ 13 := extractC2_toNat b.w1 b.w2 ▸ c2_parts_lt _ _
  have hc4 := extractC4_le b.w4
  simp only [Block.CoefficientRanges, loadCoefficients_c2, loadCoefficients_c4]
  omega

theorem inv_loadCoefficients {b : Block} (h : b.Inv) (hw : b.wordsWritten = true) : b.loadCoefficients.Inv :=
  { h with
    readyHasWords := fun _ => (wordsWritten_iff b).1 hw
    resultHasInputs := fun hr => ⟨rfl, (h.resultHasInputs hr).2⟩
    noCoefficientsBefore := nofun
    coefficientRanges := loadCoefficients_coefficientRanges b }

/-- COMP writes the result and RESV; every other register and flag of the invariant is as before (R95). -/
theorem inv_compensate {b : Block} (h : b.Inv) (hc : b.calv = true) (hs : b.sampleWritten = true) :
    b.compensate.Inv where
  readyHasWords := by simpa [Block.ReadyHasWords] using h.readyHasWords
  resultHasInputs := by simp [Block.ResultHasInputs, hc, (sampleWritten_iff b).1 hs]
  countHasResult _ := compensate_resv b
  noCoefficientsBefore := by simpa [Block.NoCoefficientsBefore] using h.noCoefficientsBefore
  noResultBefore := by simp [Block.NoResultBefore]
  coefficientRanges := by simpa [Block.CoefficientRanges] using h.coefficientRanges
  sumRanges := by simpa [Block.SumRanges] using h.sumRanges
  noMeanBefore := by simpa [Block.NoMeanBefore] using h.noMeanBefore
  temperatureRanges := by
    rw [Block.TemperatureRanges, compensate_t_toInt, compensate_tavg]
    exact ⟨valT_range b, h.temperatureRanges.2⟩
  pipelineRanges _ := by
    rw [compensate_ut1_toInt, compensate_dt_toInt, compensate_off_toInt, compensate_sens_toInt, compensate_dt2_toInt]
    exact ⟨valUt1_range b, valDt_range b, valOff_range h.coefficientRanges, valSens_range b, valDt2_range b⟩
  codeRange := by simpa [Block.CodeRange] using h.codeRange

/-! The sums. -/

theorem inv_clearSums {b : Block} (h : b.Inv) : b.clearSums.Inv :=
  { h with
    countHasResult := nofun
    sumRanges := by simp [Block.SumRanges] }

theorem accumulate_accn_toNat {b : Block} (h : b.accn ≠ 65535#16) : b.accumulate.accn.toNat = b.accn.toNat + 1 := by
  rw [accumulate_accn]
  bv_omega

/-- One more reading in the ranges of R26 and R28 fits the sums exactly (R107). -/
theorem accumulate_sums {b : Block} (hsums : b.SumRanges) (ht : -6095 ≤ b.t.toInt ∧ b.t.toInt ≤ 3757)
    (hn : b.accn ≠ 65535#16) :
    b.accumulate.accp.toNat = b.accp.toNat + b.p.toNat ∧ b.accumulate.acct.toInt = b.acct.toInt + b.t.toInt := by
  have hcount : b.accn.toNat ≤ 65534 := by bv_omega
  have hp := b.p.isLt
  obtain ⟨haccp, hlow, hhigh⟩ := hsums
  constructor
  · rw [accumulate_accp, narrowU_of_fits]
    omega
  · rw [accumulate_acct, narrowS_of_fits _ (by decide)]
    omega

theorem accumulate_sumRanges {b : Block} (hsums : b.SumRanges) (ht : -6095 ≤ b.t.toInt ∧ b.t.toInt ≤ 3757)
    (hn : b.accn ≠ 65535#16) : b.accumulate.SumRanges := by
  obtain ⟨hp, ht'⟩ := accumulate_sums hsums ht hn
  have := b.p.isLt
  obtain ⟨haccp, hlow, hhigh⟩ := hsums
  unfold Block.SumRanges
  rw [hp, ht', accumulate_accn_toNat hn]
  omega

theorem inv_accumulate {b : Block} (h : b.Inv) (hr : b.resv = true) (hn : b.accn ≠ 65535#16) : b.accumulate.Inv :=
  { h with
    countHasResult := fun _ => hr
    sumRanges := accumulate_sumRanges h.sumRanges h.temperatureRanges.1 hn }

/-! The means. -/

/-- A quotient truncated toward zero lies between integers whose multiples the dividend lies between (R10). -/
theorem tdiv_mem {a n lo hi : Int} (hn : 0 < n) (h : lo * n ≤ a ∧ a ≤ hi * n) : lo ≤ tdiv a n ∧ tdiv a n ≤ hi := by
  refine ⟨Int.le_tdiv_of_mul_le hn h.1, ?_⟩
  calc tdiv a n ≤ tdiv (hi * n) n := Int.tdiv_le_tdiv hn h.2
    _ = hi := Int.mul_tdiv_cancel hi hn.ne'

theorem tdiv_range {b : Block} (h : b.SumRanges) (hn : b.accn ≠ 0#16) :
    -6095 ≤ tdiv b.acct.toInt b.accn.toNat ∧ tdiv b.acct.toInt b.accn.toNat ≤ 3757 :=
  tdiv_mem (by bv_omega) h.2

theorem divide_pavg_toNat {b : Block} (h : b.SumRanges) : b.divide.pavg.toNat = b.accp.toNat / b.accn.toNat := by
  have : b.accp.toNat / b.accn.toNat ≤ 65535 := Nat.div_le_of_le_mul (Nat.mul_comm _ _ ▸ h.1)
  rw [divide_pavg, narrowU_of_fits]
  omega

theorem divide_tavg_toInt {b : Block} (h : b.SumRanges) (hn : b.accn ≠ 0#16) :
    b.divide.tavg.toInt = tdiv b.acct.toInt b.accn.toNat := by
  have := tdiv_range h hn
  rw [divide_tavg, narrowS_of_fits _ (by decide)]
  omega

theorem divide_tavg_range {b : Block} (h : b.SumRanges) (hn : b.accn ≠ 0#16) :
    -6095 ≤ b.divide.tavg.toInt ∧ b.divide.tavg.toInt ≤ 3757 :=
  divide_tavg_toInt h hn ▸ tdiv_range h hn

theorem inv_divide {b : Block} (h : b.Inv) (hn : b.accn ≠ 0#16) : b.divide.Inv :=
  { h with
    noMeanBefore := nofun
    temperatureRanges := ⟨h.temperatureRanges.1, divide_tavg_range h.sumRanges hn⟩ }

theorem exec_avg {s : State} (hn : s.block.accn ≠ 0#16) :
    exec .avg s = .next (s.answeredWith s.block.divide ⟨.ok, 0#32⟩) := by
  have e : effect .avg s.block = s.block.divide.returnOk 0#32 := if_neg hn
  rw [exec_eq_answer, e, answer_returnOk]

/-- Settles O48: the quotients of sums in the ranges of R38 (f) fit their registers. -/
theorem meansFitTheirRegisters : Obligations.MeansFitTheirRegisters := by
  intro s h hn
  exact ⟨_, exec_avg hn, divide_pavg_toNat h.sumRanges, divide_tavg_toInt h.sumRanges hn,
    divide_tavg_range h.sumRanges hn⟩

/-! Every transaction and every step. -/

/-- Every transaction keeps the invariant. -/
theorem inv_effect {b : Block} (h : b.Inv) (i : Instr) : (effect i b).1.Inv := by
  rcases effect_block_cases i b with ⟨c, e⟩ | ⟨r, d, -, e⟩ | ⟨-, -, hw, e⟩ | ⟨-, hc, hs, e⟩ | ⟨-, e⟩ | ⟨-, hr, hn, e⟩ |
      ⟨-, hn, e⟩ <;> rw [e]
  · exact inv_record h c
  · exact inv_storeInput h r _
  · exact inv_loadCoefficients h hw
  · exact inv_compensate h hc hs
  · exact inv_clearSums h
  · exact inv_accumulate h hr hn
  · exact inv_divide h hn

/-- Settles O52: a step leaves the block of an effect or the reset block. -/
theorem everyStepKeepsTheInvariant : Obligations.EveryStepKeepsTheInvariant := by
  intro s t h hstep
  rcases step_block_cases hstep with ⟨i, e⟩ | ⟨-, -, e⟩ <;> rw [e]
  · exact inv_effect h i
  · exact reset_inv

end Sys2Proof.Machine
end

section
/-! The register space as the host sees it (R40 to R48): a read and a write by the address in the word. -/

namespace Sys2Proof

/-! The classes of addresses (R41). -/

/-- An address is that of a named register, or reserved. -/
theorem addr_named_or_reserved (a : Addr) : (∃ r : RegName, r.addr = a) ∨ 0x1A ≤ a.toNat := by
  cases h : RegName.ofAddr a with
  | some r => exact .inl ⟨r, addr_of_ofAddr_eq_some h⟩
  | none => exact .inr (le_toNat_of_ofAddr_eq_none a h)

/-- The addresses 0x02 to 0x07 are those of the input registers (R39). -/
theorem exists_inputReg_addr {a : Addr} (hlo : 2 ≤ a.toNat) (hhi : a.toNat ≤ 7) : ∃ r : InputReg, r.name.addr = a := by
  cases h : InputReg.ofAddr a with
  | some r => exact ⟨r, addr_of_inputOfAddr_eq_some h⟩
  | none =>
    have := toNat_of_inputOfAddr_eq_none a h (by bv_omega)
    omega

@[simp] theorem decode_txnWord_write (a : Addr) (d : Data) : decode (txnWord true a d) = decodeWrite a d := by
  simp [decode]

@[simp] theorem decode_txnWord_read (a : Addr) (d : Data) : decode (txnWord false a d) = decodeRead a d := by
  simp [decode]

end Sys2Proof

namespace Sys2Proof.Machine

/-! The outcome of a word, by the class of its address. -/

/-- A read of a named address answers its register and leaves the block (R71). -/
theorem exec_read_named (r : RegName) (d : Data) (s : State) :
    exec (decode (txnWord false r.addr d)) s = .next (s.answeredWith s.block ⟨.ok, s.block.readRegister r⟩) := by
  rw [decode_txnWord_read, exec_eq_answer, effect_decodeRead_addr, Block.readAt, answer_returnOk]

/-- A read of a reserved address is refused with E_BADADDR (R72). -/
theorem exec_read_reserved {a : Addr} (h : 0x1A ≤ a.toNat) (d : Data) (s : State) :
    exec (decode (txnWord false a d)) s = .next (s.answeredWith (s.block.refusedAs 1) ⟨.badAddr, 0⟩) := by
  rw [decode_txnWord_read, exec_eq_answer, effect_decodeRead_reserved h, Block.refuseRead, answer_raise _ _ (by decide)]
  rfl

/-- A write to an input register stores the operand (R68). -/
theorem exec_write_input (r : InputReg) (d : Data) (s : State) :
    exec (decode (txnWord true r.name.addr d)) s =
      .next (s.answeredWith (s.block.storeInput r (imm16 d)) ⟨.ok, 0⟩) := by
  rw [decode_txnWord_write, exec_eq_answer, effect_decodeWrite_input, Block.writeAt, answer_returnOk]
  rfl

/-- A write to a read-only address is refused with E_RO (R70). -/
theorem exec_write_readOnly {a : Addr} (h : a.toNat = 1 ∨ 8 ≤ a.toNat ∧ a.toNat ≤ 25) (d : Data) (s : State) :
    exec (decode (txnWord true a d)) s = .next (s.answeredWith (s.block.refusedAs 2) ⟨.ro, 0⟩) := by
  have hrefuse : s.block.refuseWrite a = s.block.raise .ro := if_pos h
  rw [decode_txnWord_write, exec_eq_answer, effect_decodeWrite_refused (by omega), hrefuse, answer_raise _ _ (by decide)]
  rfl

/-- A write to a reserved address is refused with E_BADADDR (R70). -/
theorem exec_write_reserved {a : Addr} (h : 0x1A ≤ a.toNat) (d : Data) (s : State) :
    exec (decode (txnWord true a d)) s = .next (s.answeredWith (s.block.refusedAs 1) ⟨.badAddr, 0⟩) := by
  have hrefuse : s.block.refuseWrite a = s.block.raise .badAddr := if_neg (by omega)
  rw [decode_txnWord_write, exec_eq_answer, effect_decodeWrite_refused (by omega), hrefuse, answer_raise _ _ (by decide)]
  rfl

/-- Settles O18: by the class of the address, and in the reserved one by the direction. -/
theorem addressClassesAreRefused : Obligations.AddressClassesAreRefused := by
  intro a d s
  refine ⟨fun h => exec_write_readOnly h d s, fun h w => ?_⟩
  cases w with
  | true => exact exec_write_reserved h d s
  | false => exact exec_read_reserved h d s

/-! The value a read answers (R45). -/

/-- An answer that zero-extends a register is the register's unsigned value. -/
theorem exec_answers_toNat {i : Instr} {s : State} {w : Nat} (v : BitVec w) (hw : w ≤ 32)
    (h : effect i s.block = s.block.returnOk (zext v)) :
    ∃ u : Data, u.toNat = v.toNat ∧ exec i s = .next (s.answeredWith s.block ⟨.ok, u⟩) :=
  ⟨zext v, zext_toNat v hw, by rw [exec_eq_answer, h, answer_returnOk]⟩

/-- An answer that sign-extends a register is the register's signed value. -/
theorem exec_answers_toInt {i : Instr} {s : State} {w : Nat} (v : BitVec w) (hw : w ≤ 32)
    (h : effect i s.block = s.block.returnOk (sext v)) :
    ∃ u : Data, u.toInt = v.toInt ∧ exec i s = .next (s.answeredWith s.block ⟨.ok, u⟩) :=
  ⟨sext v, sext_toInt v hw, by rw [exec_eq_answer, h, answer_returnOk]⟩

/-- Settles O19: each of the 16 unsigned registers is zero-extended, each of the 8 signed ones sign-extended. -/
theorem readExtendsTheRegister : Obligations.ReadExtendsTheRegister := by
  intro d s
  constructor <;> simp only [List.forall_mem_cons, List.not_mem_nil, false_implies, implies_true, and_true]
  · and_intros <;> exact exec_answers_toNat _ (by decide) rfl
  · and_intros <;> exact exec_answers_toInt _ (by decide) rfl

/-! The operand bits that count (R46, R56). -/

/-- Two DATA with equal low halves are the same operand. -/
theorem imm16_congr {d e : Data} (h : d.toNat % 65536 = e.toNat % 65536) : imm16 d = imm16 e :=
  BitVec.eq_of_toNat_eq (by rw [imm16_toNat, imm16_toNat, h])

/-- Settles O21: the outcome of a read does not mention DATA, that of a write to an input register only `imm16` of it. -/
theorem unusedDataBitsAreIgnored : Obligations.UnusedDataBitsAreIgnored := by
  refine ⟨fun a d e s => ?_, fun a d e s hlo hhi hde => ?_⟩
  · obtain ⟨r, rfl⟩ | h := addr_named_or_reserved a
    · rw [exec_read_named, exec_read_named]
    · rw [exec_read_reserved h, exec_read_reserved h]
  · obtain ⟨r, rfl⟩ := exists_inputReg_addr hlo hhi
    rw [exec_write_input, exec_write_input, imm16_congr hde]

/-! Repeating a transaction (R48). -/

/-- Storing a value twice is storing it once. -/
theorem storeInput_storeInput (b : Block) (r : InputReg) (v : BitVec 16) :
    (b.storeInput r v).storeInput r v = b.storeInput r v := by cases r <;> rfl

/-- An accepted ACC adds the reading (R106). -/
theorem exec_acc {s : State} (hr : s.block.resv = true) (hn : s.block.accn ≠ 65535#16) :
    exec .acc s = .next (s.answeredWith s.block.accumulate ⟨.ok, 0#32⟩) := by
  have e : effect .acc s.block = s.block.accumulate.returnOk 0#32 := by
    change s.block.runAcc = _
    simp [Block.runAcc, hr, hn]
  rw [exec_eq_answer, e, answer_returnOk]

/-- Adding a reading always changes the block: the count goes up by 1 (R106). -/
theorem accumulate_ne_self (b : Block) : b.accumulate ≠ b := fun h => by
  have hcount : b.accn + 1#16 = b.accn := by rw [← accumulate_accn, h]
  bv_omega

/-- The block after six writes of 0, CAL and COMP from reset: a reading is held, none is summed. -/
def zeroWordsReading : Block :=
  ([.w1, .w2, .w3, .w4, .d1, .d2].foldl (·.storeInput · 0#16) Block.reset).loadCoefficients.compensate

@[simp] theorem zeroWordsReading_resv : zeroWordsReading.resv = true := compensate_resv _

@[simp] theorem zeroWordsReading_accn : zeroWordsReading.accn = 0#16 := compensate_accn _

/-- Two ACC of the reading of zero words differ from one. -/
theorem acc_not_idempotent :
    ∃ s t u : State, exec .acc s = .next t ∧ exec .acc t = .next u ∧ u.block ≠ t.block :=
  ⟨{ State.reset with block := zeroWordsReading }, _, _, exec_acc (by simp) (by simp), exec_acc (by simp) (by simp),
    accumulate_ne_self _⟩

/-- Settles O22: a read leaves the block, so it repeats; a stored word is stored again; a second ACC counts again. -/
theorem readsRepeatAndWritesAreIdempotent : Obligations.ReadsRepeatAndWritesAreIdempotent := by
  refine ⟨fun a d s ha => ?_, fun a d s ha => exec_read_reserved ha d s, fun a d s hlo hhi => ?_, acc_not_idempotent⟩
  · obtain ⟨r, rfl⟩ := (addr_named_or_reserved a).resolve_right (by omega)
    rw [readWord_addr]
    exact ⟨_, exec_read_named r d s, rfl, exec_read_named r d _⟩
  · obtain ⟨r, rfl⟩ := exists_inputReg_addr hlo hhi
    exact ⟨_, _, exec_write_input r d s, exec_write_input r d _, storeInput_storeInput _ r _⟩

end Sys2Proof.Machine
end

section
/-! The decoder and the encoder are inverse, and the rows of the opcode table share no word (R53, R55, R57, R59, R64). -/

namespace Sys2Proof

/-! Every word decodes to a well-formed instruction, and no bit of it is lost. -/

theorem addrIn_iff {lo hi : Nat} {a : Addr} : addrIn lo hi a = true ↔ lo ≤ a.toNat ∧ a.toNat ≤ hi := decide_eq_true_iff

/-- The binary logarithm of an opcode is the number of its highest set bit. -/
theorem highestBitIs_of_log2 {op : Data} {k : Nat} (h : op.toNat ≠ 0) (hk : op.toNat.log2 = k) :
    highestBitIs k op = true :=
  decide_eq_true ((Nat.log2_eq_iff h).1 hk)

/-- A write to `CMD`. The last row takes the logarithms that no other row names; for a 32-bit opcode that is only 31. -/
theorem decodeCommand_keeps_word (op : Data) :
    (decodeCommand op).wellFormed = true ∧ encode (decodeCommand op) = txnWord true 0 op := by
  unfold decodeCommand
  split
  case h_7 =>
    have h6 : 6 ≤ op.toNat := by grind
    split
    case h_1 hk =>
      have h7 : op.toNat < 2 ^ 3 := ((Nat.log2_eq_iff (by omega)).1 hk).2
      exact ⟨decide_eq_true ⟨h6, by omega⟩, rfl⟩
    case h_30 =>
      have hlow : 2 ≤ op.toNat.log2 := (Nat.le_log2 (by omega)).2 (by omega)
      have hhigh : op.toNat.log2 < 32 := (Nat.log2_lt (by omega)).2 op.isLt
      have hlast : op.toNat.log2 = 31 := by grind
      exact ⟨highestBitIs_of_log2 (by omega) hlast, rfl⟩
    all_goals
      rename_i hk
      exact ⟨highestBitIs_of_log2 (by omega) hk, rfl⟩
  all_goals
    rename_i hop
    obtain rfl := (BitVec.toNat_eq_nat.1 hop).2
    decide

theorem decodeWrite_keeps_word (a : Addr) (d : Data) :
    (decodeWrite a d).wellFormed = true ∧ encode (decodeWrite a d) = txnWord true a d := by
  unfold decodeWrite
  split
  case h_1 ha =>
    obtain rfl := (BitVec.toNat_eq_nat.1 ha).2
    exact decodeCommand_keeps_word d
  case h_2 ha => exact ⟨addrIn_iff.2 ⟨ha.ge, ha.le⟩, rfl⟩
  case h_9 =>
    have h8 : 8 ≤ a.toNat := by grind
    split_ifs <;> exact ⟨addrIn_iff.2 ⟨by omega, by omega⟩, rfl⟩
  all_goals
    rename_i ha
    obtain rfl := (BitVec.toNat_eq_nat.1 ha).2
    exact ⟨rfl, rfl⟩

theorem decodeRead_keeps_word (a : Addr) (d : Data) :
    (decodeRead a d).wellFormed = true ∧ encode (decodeRead a d) = txnWord false a d := by
  unfold decodeRead
  split
  case h_27 =>
    have h1A : 0x1A ≤ a.toNat := by grind
    split_ifs <;> exact ⟨addrIn_iff.2 ⟨by omega, by omega⟩, rfl⟩
  all_goals
    rename_i ha
    obtain rfl := (BitVec.toNat_eq_nat.1 ha).2
    exact ⟨rfl, rfl⟩

theorem decode_txnWord (w : Bool) (a : Addr) (d : Data) :
    decode (txnWord w a d) = if w then decodeWrite a d else decodeRead a d := by simp [decode]

theorem exists_txnWord_eq (tw : TxnWord) : ∃ w a d, txnWord w a d = tw := ⟨_, _, _, txnWord_fields tw⟩

/-- Settles O3, by the direction of the word. -/
theorem encodeInvertsDecode : Obligations.EncodeInvertsDecode := by
  intro tw
  obtain ⟨w, a, d, rfl⟩ := exists_txnWord_eq tw
  rw [decode_txnWord]
  cases w with
  | true => exact decodeWrite_keeps_word a d
  | false => exact decodeRead_keeps_word a d

/-! What the row of a word says of its fields. -/

theorem txnWord_inj {w w' : Bool} {a a' : Addr} {d d' : Data} :
    txnWord w a d = txnWord w' a' d' ↔ w = w' ∧ a = a' ∧ d = d' := by
  constructor
  · intro h
    exact ⟨by simpa using congrArg txnW h, by simpa using congrArg txnAddr h, by simpa using congrArg txnData h⟩
  · rintro ⟨rfl, rfl, rfl⟩
    rfl

/-- A word lies in a row when each of its fields does. -/
theorem inRow_iff_fields (r : OpcodeRow) (w : Bool) (a : Addr) (d : Data) : inRow r (txnWord w a d) = true ↔
    (w && txnW r.mask) = txnW r.bits ∧ a &&& txnAddr r.mask = txnAddr r.bits ∧
      d &&& txnData r.mask = txnData r.bits := by
  rw [inRow, decide_eq_true_eq, ← txnWord_inj, ← txnWord_and, txnWord_fields, txnWord_fields]

/-- A number whose masked bits are `v` is at least `v`, and exceeds it by no more than the bits that the mask leaves out. -/
theorem toNat_bounds_of_and_eq {n : Nat} {x m v : BitVec n} (h : x &&& m = v) :
    v.toNat ≤ x.toNat ∧ x.toNat ≤ v.toNat + (~~~m).toNat := by
  subst h
  have hdisjoint : (x &&& m) &&& (x &&& ~~~m) = 0#n := by
    ext i hi
    cases h : m[i] <;> simp [h]
  have hsplit : (x &&& m) + (x &&& ~~~m) = x := by
    rw [BitVec.add_eq_or_of_and_eq_zero _ _ hdisjoint]
    ext i hi
    cases h : m[i] <;> simp [h]
  have hlow : (x &&& m).toNat ≤ x.toNat := BitVec.toNat_and x m ▸ Nat.and_le_left
  have hrest : (x &&& ~~~m).toNat ≤ (~~~m).toNat := BitVec.toNat_and x (~~~m) ▸ Nat.and_le_right
  have hsum : x.toNat ≤ (x &&& m).toNat + (x &&& ~~~m).toNat :=
    calc x.toNat = ((x &&& m) + (x &&& ~~~m)).toNat := by rw [hsplit]
      _ ≤ (x &&& m).toNat + (x &&& ~~~m).toNat := BitVec.toNat_add _ _ ▸ Nat.mod_le _ _
  omega

/-- Where the bits that the mask leaves out cannot pass the highest set bit of `v`, that is the opcode's highest set bit. -/
theorem log2_of_and_eq {op m v : Data} (h : op &&& m = v) (hv : v.toNat ≠ 0)
    (hm : (v.toNat + (~~~m).toNat).log2 = v.toNat.log2) : op.toNat.log2 = v.toNat.log2 := by
  obtain ⟨hlow, hhigh⟩ := toNat_bounds_of_and_eq h
  have hpow := Nat.log2_self_le hv
  rw [Nat.log2_eq_iff (by omega)] at hm ⊢
  omega

/-! The decoder on the rows of the table. -/

/-- A write from 0x08 on, by the blocks of R64. -/
theorem decodeWrite_of_ge {a : Addr} (h : 0x08 ≤ a.toNat) (d : Data) : decodeWrite a d =
    if a.toNat ≤ 0x0F then .wrRo08To0F a d
    else if a.toNat ≤ 0x17 then .wrRo10To17 a d
    else if a.toNat ≤ 0x19 then .wrRo18To19 a d
    else if a.toNat ≤ 0x1B then .wrRsvd1ATo1B a d
    else if a.toNat ≤ 0x1F then .wrRsvd1CTo1F a d
    else if a.toNat ≤ 0x3F then .wrRsvd20To3F a d
    else .wrRsvd40To7F a d := by
  unfold decodeWrite
  split
  case h_9 => rfl
  all_goals omega

/-- A read from 0x1A on, by the blocks of R64. -/
theorem decodeRead_of_ge {a : Addr} (h : 0x1A ≤ a.toNat) (d : Data) : decodeRead a d =
    if a.toNat ≤ 0x1B then .rdRsvd1ATo1B a d
    else if a.toNat ≤ 0x1F then .rdRsvd1CTo1F a d
    else if a.toNat ≤ 0x3F then .rdRsvd20To3F a d
    else .rdRsvd40To7F a d := by
  unfold decodeRead
  split
  case h_27 => rfl
  all_goals omega

/-- A word in the row of an instruction decodes to an instruction of that row; to this one, if the word is its encoding.
A row gives `W` and either the whole `ADDR` or an interval of addresses; a reserved row at `CMD` gives the highest set bit
of the opcode. These are what the decoder looks at. -/
theorem decode_of_inRow {i : Instr} {tw : TxnWord} (h : inRow (opcodeRow i) tw = true) :
    opcodeRow (decode tw) = opcodeRow i ∧ (encode i = tw → decode tw = i) := by
  obtain ⟨w, a, d, rfl⟩ := exists_txnWord_eq tw
  obtain ⟨hw, ha, hd⟩ := (inRow_iff_fields _ w a d).1 h
  rw [decode_txnWord]
  cases i <;> simp only [opcodeRow, txnW, txnAddr, txnData, BitVec.reduceExtractLsb', BitVec.reduceGetLsb,
    Bool.and_true] at hw ha hd <;> subst hw
  case nop | cal | comp | aclr | acc | avg =>
    obtain rfl := (BitVec.and_allOnes (x := a)).symm.trans ha
    obtain rfl := (BitVec.and_allOnes (x := d)).symm.trans hd
    decide
  case wrRo01 =>
    obtain rfl := (BitVec.and_allOnes (x := a)).symm.trans ha
    refine ⟨rfl, fun hword => ?_⟩
    obtain ⟨-, rfl, rfl⟩ := txnWord_inj.1 hword
    rfl
  case wrRo08To0F | wrRo10To17 | wrRo18To19 | wrRsvd1ATo1B | wrRsvd1CTo1F | wrRsvd20To3F | wrRsvd40To7F =>
    obtain ⟨hlow, hhigh⟩ := toNat_bounds_of_and_eq ha
    simp only [BitVec.reduceNot, BitVec.reduceToNat, Nat.reduceAdd] at hlow hhigh
    rw [if_pos rfl, decodeWrite_of_ge (by omega)]
    simp (disch := omega) only [if_pos, if_neg]
    refine ⟨rfl, fun hword => ?_⟩
    obtain ⟨-, rfl, rfl⟩ := txnWord_inj.1 hword
    rfl
  case rdRsvd1ATo1B | rdRsvd1CTo1F | rdRsvd20To3F | rdRsvd40To7F =>
    obtain ⟨hlow, hhigh⟩ := toNat_bounds_of_and_eq ha
    simp only [BitVec.reduceNot, BitVec.reduceToNat, Nat.reduceAdd] at hlow hhigh
    rw [if_neg (by decide), decodeRead_of_ge (by omega)]
    simp (disch := omega) only [if_pos, if_neg]
    refine ⟨rfl, fun hword => ?_⟩
    obtain ⟨-, rfl, rfl⟩ := txnWord_inj.1 hword
    rfl
  case cmdRsvd6To7 | cmdRsvdB3 | cmdRsvdB4 | cmdRsvdB5 | cmdRsvdB6 | cmdRsvdB7 | cmdRsvdB8 | cmdRsvdB9 | cmdRsvdB10 |
      cmdRsvdB11 | cmdRsvdB12 | cmdRsvdB13 | cmdRsvdB14 | cmdRsvdB15 | cmdRsvdB16 | cmdRsvdB17 | cmdRsvdB18 |
      cmdRsvdB19 | cmdRsvdB20 | cmdRsvdB21 | cmdRsvdB22 | cmdRsvdB23 | cmdRsvdB24 | cmdRsvdB25 | cmdRsvdB26 |
      cmdRsvdB27 | cmdRsvdB28 | cmdRsvdB29 | cmdRsvdB30 | cmdRsvdB31 =>
    obtain rfl := (BitVec.and_allOnes (x := a)).symm.trans ha
    have hk := log2_of_and_eq hd (by decide) (by decide)
    have h6 : 6 ≤ d.toNat := le_trans (by decide) (toNat_bounds_of_and_eq hd).1
    rw [if_pos rfl, decodeWrite_cmd]
    unfold decodeCommand
    split
    case h_7 =>
      rw [hk]
      refine ⟨rfl, fun hword => ?_⟩
      obtain ⟨-, -, rfl⟩ := txnWord_inj.1 hword
      rfl
    all_goals omega
  all_goals
    obtain rfl := (BitVec.and_allOnes (x := a)).symm.trans ha
    refine ⟨rfl, fun hword => ?_⟩
    obtain ⟨-, -, rfl⟩ := txnWord_inj.1 hword
    rfl

open Laws.RowWord in
/-- The family `RowWord` holds of every instruction: a well-formed instruction's word lies in its row (R64). -/
theorem inRow_encode {i : Instr} (h : i.wellFormed = true) : inRow (opcodeRow i) (encode i) = true := by
  have hrow : Statement i := by
    cases i
    exacts [nop, cal, comp, aclr, acc, avg, wrW1 _, wrW2 _, wrW3 _, wrW4 _, wrD1 _, wrD2 _, rdCmd _, rdStatus _, rdW1 _,
      rdW2 _, rdW3 _, rdW4 _, rdD1 _, rdD2 _, rdC1 _, rdC2 _, rdC3 _, rdC4 _, rdC5 _, rdC6 _, rdUt1 _, rdDt _, rdOff _,
      rdSens _, rdDt2 _, rdP _, rdT _, rdAccp _, rdAcct _, rdAccn _, rdPavg _, rdTavg _, wrRo01 _ _, wrRo08To0F _ _,
      wrRo10To17 _ _, wrRo18To19 _ _, wrRsvd1ATo1B _ _, wrRsvd1CTo1F _ _, wrRsvd20To3F _ _, wrRsvd40To7F _ _,
      rdRsvd1ATo1B _ _, rdRsvd1CTo1F _ _, rdRsvd20To3F _ _, rdRsvd40To7F _ _, cmdRsvd6To7 _, cmdRsvdB3 _, cmdRsvdB4 _,
      cmdRsvdB5 _, cmdRsvdB6 _, cmdRsvdB7 _, cmdRsvdB8 _, cmdRsvdB9 _, cmdRsvdB10 _, cmdRsvdB11 _, cmdRsvdB12 _,
      cmdRsvdB13 _, cmdRsvdB14 _, cmdRsvdB15 _, cmdRsvdB16 _, cmdRsvdB17 _, cmdRsvdB18 _, cmdRsvdB19 _, cmdRsvdB20 _,
      cmdRsvdB21 _, cmdRsvdB22 _, cmdRsvdB23 _, cmdRsvdB24 _, cmdRsvdB25 _, cmdRsvdB26 _, cmdRsvdB27 _, cmdRsvdB28 _,
      cmdRsvdB29 _, cmdRsvdB30 _, cmdRsvdB31 _]
  exact hrow h

/-- Settles O2: the encoding lies in the instruction's row, and the decoder follows the rows. -/
theorem decodeInvertsEncode : Obligations.DecodeInvertsEncode :=
  fun _ h => (decode_of_inRow (inRow_encode h)).2 rfl

/-- Settles O4: a word is the encoding of its decoding, so it lies in that row; any other row it lies in is that of its
decoding, since the decoder follows the rows. -/
theorem tableRowsPartitionTheWords : Obligations.TableRowsPartitionTheWords := by
  intro tw
  obtain ⟨hwf, hword⟩ := encodeInvertsDecode tw
  have hrow := inRow_encode hwf
  rw [hword] at hrow
  exact ⟨hrow, fun _ h => (decode_of_inRow h).1.symm⟩

/-- Settles O1, by evaluating the decoder on the fourteen words. -/
theorem specWordsDecodeAsListed : Obligations.SpecWordsDecodeAsListed := by
  unfold Obligations.SpecWordsDecodeAsListed
  decide

end Sys2Proof

namespace Sys2Proof.Machine

/-! One response to each transaction (R54, R130, R131). -/

/-- A refusal answers no data (R130). -/
theorem rdata_of_refused {i : Instr} {b : Block} (h : (effect i b).2.st ≠ .ok) : (effect i b).2.rdata = 0 := by
  rcases effect_cases i b with ⟨v, e⟩ | ⟨c, -, e⟩ | ⟨r, d, -, e⟩ | ⟨-, -, -, e⟩ | ⟨-, -, -, e⟩ | ⟨-, e⟩ | ⟨-, -, -, e⟩ |
      ⟨-, -, e⟩ <;> rw [e] at h ⊢
  case inl => exact absurd rfl h
  all_goals rfl

/-- A command answers no data, whether it is done or refused (R69). -/
theorem command_rdata (b : Block) (op : Data) : (b.command op).2.rdata = 0 := by
  unfold Block.command
  split_ifs
  · rfl
  · rcases runCal_cases b with ⟨-, e⟩ | ⟨-, -, e⟩ | ⟨-, -, e⟩ <;> rw [e] <;> rfl
  · rcases runComp_cases b with ⟨-, e⟩ | ⟨-, -, e⟩ | ⟨-, -, e⟩ <;> rw [e] <;> rfl
  · rfl
  · rcases runAcc_cases b with ⟨-, e⟩ | ⟨-, -, e⟩ | ⟨-, -, e⟩ <;> rw [e] <;> rfl
  · rcases runAvg_cases b with ⟨-, e⟩ | ⟨-, e⟩ <;> rw [e] <;> rfl
  · rfl

/-- A write answers no data: a command, the write of an input register, or a refusal (R54). -/
theorem transact_write_rdata {tw : TxnWord} (hw : txnW tw = true) (b : Block) : (b.transact tw).2.rdata = 0 := by
  rw [Block.transact, if_pos hw]
  split_ifs
  · exact command_rdata b _
  · split
    · rfl
    · rcases refuseWrite_cases b (txnAddr tw) with e | e <;> rw [e] <;> rfl

/-- Settles O10: `exec` answers the response of the effect; a well-formed instruction's effect is the transaction of its
encoding, which tells reads from writes. -/
theorem everyTransactionIsAnsweredOnce : Obligations.EveryTransactionIsAnsweredOnce := by
  intro i s
  refine ⟨_, (effect i s.block).2, exec_eq_answer i s, rfl, rfl, rdata_of_refused, fun hwf hw => ?_, code_le _⟩
  rw [← decodeInvertsEncode i hwf, effect_decode]
  exact transact_write_rdata hw s.block

/-! The commands (R56, R59, R69). -/

/-- A write of an opcode to `CMD` is decoded by the opcode (R55). -/
theorem decode_txnWord_cmd (op : Data) : decode (txnWord true 0 op) = decodeCommand op := decode_txnWord_write 0 op

/-- A reserved opcode is refused with E_BADCMD (R69). -/
theorem exec_reservedOpcode {op : Data} (h : 6 ≤ op.toNat) (s : State) :
    exec (decode (txnWord true 0 op)) s = .next (s.answeredWith (s.block.refusedAs 3) ⟨.badCmd, 0⟩) := by
  rw [decode_txnWord_cmd, exec_eq_answer, effect_decodeCommand_reserved h, Block.refuseCommand,
    answer_raise _ _ (by decide)]
  rfl

/-- Settles O17: the six opcodes by `decodeCommand`, every other by `exec_reservedOpcode`. -/
theorem onlySixOpcodesAreCommands : Obligations.OnlySixOpcodesAreCommands := by
  unfold Obligations.OnlySixOpcodesAreCommands
  simp only [decode_txnWord_cmd]
  exact ⟨⟨rfl, rfl, rfl, rfl, rfl, rfl⟩, fun op s h => decode_txnWord_cmd op ▸ exec_reservedOpcode h s⟩

end Sys2Proof.Machine
end

section
/-! The rows of host access (R68 to R72): the writes of the input registers, and the refusals by address and by opcode,
each as the outcome of its instructions. -/

namespace Sys2Proof.Machine

/-! The write of an input register (R68). -/

/-- The operand a write stores is the low half of DATA (R68). -/
theorem imm16_eq_ofNat (d : Data) : imm16 d = BitVec.ofNat 16 (d.toNat % 65536) :=
  BitVec.eq_of_toNat_eq (by simp)

/-- Each of the six write rows stores its operand in its register and sets its flag (R68). -/
theorem exec_writeInstr (r : InputReg) (d : Data) (s : State) :
    exec (writeInstr r d) s =
      .next (s.answeredWith (s.block.storeInput r (BitVec.ofNat 16 (d.toNat % 65536))) ⟨.ok, 0⟩) := by
  have e : effect (writeInstr r d) s.block = s.block.writeAt r d := by cases r <;> rfl
  rw [exec_eq_answer, e, Block.writeAt, answer_returnOk, imm16_eq_ofNat]
  rfl

/-- Settles O13: register by register, the outcome of a write row with `storeInput` at that register. -/
theorem writeStoresLowHalfAndSetsFlag : Obligations.WriteStoresLowHalfAndSetsFlag := fun d s =>
  ⟨exec_writeInstr .w1 d s, exec_writeInstr .w2 d s, exec_writeInstr .w3 d s, exec_writeInstr .w4 d s,
    exec_writeInstr .d1 d s, exec_writeInstr .d2 d s⟩

/-! The refused rows. -/

/-- An instruction whose effect is to raise a status answers that status, and changes nothing but ECODE (R130, R133). -/
theorem exec_of_raise {i : Instr} {s : State} {c : Status} (hc : c ≠ .ok) (h : effect i s.block = s.block.raise c) :
    exec i s = .next (s.answeredWith (s.block.refusedAs c.code) ⟨c, 0⟩) := by
  rw [exec_eq_answer, h, answer_raise s s.block hc]
  rfl

/-- An instruction that takes the refusal of a reserved read answers E_BADADDR (R72). -/
theorem exec_of_refuseRead {i : Instr} {s : State} (h : effect i s.block = s.block.refuseRead) :
    exec i s = .next (s.answeredWith (s.block.refusedAs 1) ⟨.badAddr, 0⟩) := exec_of_raise (by decide) h

/-- An instruction that takes the refusal of a reserved opcode answers E_BADCMD (R69). -/
theorem exec_of_refuseCommand {i : Instr} {s : State} (h : effect i s.block = s.block.refuseCommand) :
    exec i s = .next (s.answeredWith (s.block.refusedAs 3) ⟨.badCmd, 0⟩) := exec_of_raise (by decide) h

/-- A write that is refused by its address, at a read-only address, raises E_RO (R70). -/
theorem refuseWrite_readOnly {a : Addr} (h : a.toNat = 1 ∨ 8 ≤ a.toNat ∧ a.toNat ≤ 25) (b : Block) :
    b.refuseWrite a = b.raise .ro := if_pos h

/-- A write that is refused by its address, at a reserved address, raises E_BADADDR (R70). -/
theorem refuseWrite_reserved {a : Addr} (h : 26 ≤ a.toNat) (b : Block) :
    b.refuseWrite a = b.raise .badAddr := if_neg (by omega)

/-- A well-formed instruction of a read-only write row has a read-only address and is refused by it (R64, R70). -/
theorem effect_readOnlyRow {i : Instr} {a : Addr} {d : Data} (hwf : i.wellFormed = true)
    (hi : i ∈ [Instr.wrRo01 a d, .wrRo08To0F a d, .wrRo10To17 a d, .wrRo18To19 a d]) (b : Block) :
    effect i b = b.raise .ro := by
  obtain ⟨heffect, haddr⟩ : effect i b = b.refuseWrite a ∧ (a.toNat = 1 ∨ 8 ≤ a.toNat ∧ a.toNat ≤ 25) := by
    simp only [List.mem_cons, List.not_mem_nil, or_false] at hi
    rcases hi with rfl | rfl | rfl | rfl <;> have := addrIn_iff.mp hwf <;> exact ⟨rfl, by omega⟩
  rw [heffect, refuseWrite_readOnly haddr]

/-- A well-formed instruction of a reserved write row has a reserved address and is refused by it (R64, R70). -/
theorem effect_reservedWriteRow {i : Instr} {a : Addr} {d : Data} (hwf : i.wellFormed = true)
    (hi : i ∈ [Instr.wrRsvd1ATo1B a d, .wrRsvd1CTo1F a d, .wrRsvd20To3F a d, .wrRsvd40To7F a d]) (b : Block) :
    effect i b = b.raise .badAddr := by
  obtain ⟨heffect, haddr⟩ : effect i b = b.refuseWrite a ∧ 26 ≤ a.toNat := by
    simp only [List.mem_cons, List.not_mem_nil, or_false] at hi
    rcases hi with rfl | rfl | rfl | rfl <;> have := addrIn_iff.mp hwf <;> exact ⟨rfl, by omega⟩
  rw [heffect, refuseWrite_reserved haddr]

/-- Settles O14: the row of a well-formed write gives the class of its address. -/
theorem writeElsewhereIsRefused : Obligations.WriteElsewhereIsRefused := fun _ _ s _ hwf =>
  ⟨fun hi => exec_of_raise (by decide) (effect_readOnlyRow hwf hi s.block),
    fun hi => exec_of_raise (by decide) (effect_reservedWriteRow hwf hi s.block)⟩

/-- Settles O15: the four rows have the one effect `refuseRead`, which looks at no operand. -/
theorem reservedReadIsRefused : Obligations.ReservedReadIsRefused := by
  intro a d s
  simp only [List.forall_mem_cons, List.not_mem_nil, false_implies, implies_true, and_true]
  and_intros <;> exact exec_of_refuseRead rfl

/-- Settles O16: the 30 rows have the one effect `refuseCommand`, which looks at no operand. -/
theorem reservedOpcodeIsRefused : Obligations.ReservedOpcodeIsRefused := by
  intro op s
  simp only [List.forall_mem_cons, List.not_mem_nil, false_implies, implies_true, and_true]
  and_intros <;> exact exec_of_refuseCommand rfl

end Sys2Proof.Machine
end

section
/-! CAL (R75 to R78). Each coefficient as the number its bits make; the words back from these numbers; and CAL as the
outcome of its three cases. -/

namespace Sys2Proof.Machine

/-! The coefficients as numbers. -/

/-- A number put above the `n` bits of another is their weighted sum. -/
theorem shiftLeft_or_eq_add {n b : Nat} (a : Nat) (h : b < 2 ^ n) : a <<< n ||| b = 2 ^ n * a + b := by
  rw [← Nat.shiftLeft_add_eq_or_of_lt h, Nat.shiftLeft_eq, Nat.mul_comm]

theorem extractC1_toNat (w1 : BitVec 16) : (extractC1 w1).toNat = w1.toNat >>> 3 &&& 0x1FFF :=
  Nat.mod_eq_of_lt (Nat.and_le_right.trans_lt (by decide))

theorem extractC3_toNat (w3 : BitVec 16) : (extractC3 w3).toNat = w3.toNat >>> 6 &&& 0x3FF :=
  Nat.mod_eq_of_lt (Nat.and_le_right.trans_lt (by decide))

theorem extractC6_toNat (w4 : BitVec 16) : (extractC6 w4).toNat = w4.toNat &&& 0x7F :=
  Nat.mod_eq_of_lt (Nat.and_le_right.trans_lt (by decide))

theorem extractC5_toNat (w2 w3 : BitVec 16) :
    (extractC5 w2 w3).toNat = (w2.toNat &&& 0x3F) <<< 6 ||| w3.toNat &&& 0x3F := by
  have hhigh : w2.toNat &&& 0x3F ≤ 0x3F := Nat.and_le_right
  have hlow : w3.toNat &&& 0x3F ≤ 0x3F := Nat.and_le_right
  have hvalue : (extractC5 w2 w3).toNat =
      ((w2.toNat &&& 0x3F) <<< 6 % 2 ^ 16 ||| w3.toNat &&& 0x3F) % 2 ^ 12 := rfl
  have hall : (w2.toNat &&& 0x3F) <<< 6 < 2 ^ 12 := by rw [Nat.shiftLeft_eq]; omega
  rw [hvalue, Nat.mod_eq_of_lt (b := 2 ^ 16) (by omega), Nat.mod_eq_of_lt (Nat.or_lt_two_pow hall (by omega))]

theorem extractC1_eq_div (w1 : BitVec 16) : (extractC1 w1).toNat = w1.toNat / 2 ^ 3 := by
  have := w1.isLt
  rw [extractC1_toNat, Nat.shiftRight_eq_div_pow, Nat.and_two_pow_sub_one_eq_mod _ 13]
  omega

theorem extractC2_eq_sum (w1 w2 : BitVec 16) :
    (extractC2 w1 w2).toNat = 2 ^ 10 * (w1.toNat % 2 ^ 3) + w2.toNat / 2 ^ 6 := by
  have := w2.isLt
  rw [extractC2_toNat, Nat.shiftRight_eq_div_pow, Nat.and_two_pow_sub_one_eq_mod _ 10, Nat.and_two_pow_sub_one_eq_mod _ 3,
    shiftLeft_or_eq_add _ (by omega)]
  omega

theorem extractC3_eq_div (w3 : BitVec 16) : (extractC3 w3).toNat = w3.toNat / 2 ^ 6 := by
  have := w3.isLt
  rw [extractC3_toNat, Nat.shiftRight_eq_div_pow, Nat.and_two_pow_sub_one_eq_mod _ 10]
  omega

theorem extractC4_eq_div (w4 : BitVec 16) : (extractC4 w4).toNat = w4.toNat / 2 ^ 7 := by
  have := w4.isLt
  rw [extractC4_toNat, Nat.shiftRight_eq_div_pow, Nat.and_two_pow_sub_one_eq_mod _ 11]
  omega

theorem extractC5_eq_sum (w2 w3 : BitVec 16) :
    (extractC5 w2 w3).toNat = 2 ^ 6 * (w2.toNat % 2 ^ 6) + w3.toNat % 2 ^ 6 := by
  rw [extractC5_toNat, Nat.and_two_pow_sub_one_eq_mod _ 6, Nat.and_two_pow_sub_one_eq_mod _ 6,
    shiftLeft_or_eq_add _ (by omega)]

theorem extractC6_eq_mod (w4 : BitVec 16) : (extractC6 w4).toNat = w4.toNat % 2 ^ 7 := by
  rw [extractC6_toNat, Nat.and_two_pow_sub_one_eq_mod _ 7]

/-! The bits of the coefficients (R77). -/

/-- The low bits of a word are the bits of its remainder. -/
theorem testBit_toNat_mod {n k j : Nat} (w : BitVec n) (h : j < k) : (w.toNat % 2 ^ k).testBit j = w.getLsbD j := by
  rw [Nat.testBit_mod_two_pow, decide_eq_true h, Bool.true_and, BitVec.testBit_toNat]

/-- A word below `2 ^ k` has no bit `k`. -/
theorem getLsbD_of_toNat_lt {n k : Nat} {w : BitVec n} (h : w.toNat < 2 ^ k) : w.getLsbD k = false := by
  rw [← BitVec.testBit_toNat, Nat.testBit_lt_two_pow h]

theorem extractC1_getLsbD (w1 : BitVec 16) (j : Nat) : (extractC1 w1).getLsbD j = w1.getLsbD (j + 3) := by
  rw [← BitVec.testBit_toNat, extractC1_eq_div, Nat.testBit_div_two_pow, BitVec.testBit_toNat]

theorem extractC2_getLsbD_high (w1 w2 : BitVec 16) {j : Nat} (h : j < 3) :
    (extractC2 w1 w2).getLsbD (j + 10) = w1.getLsbD j := by
  have := w2.isLt
  rw [← BitVec.testBit_toNat, extractC2_eq_sum, Nat.testBit_two_pow_mul_add _ (by omega), if_neg (by omega),
    Nat.add_sub_cancel, testBit_toNat_mod w1 h]

theorem extractC2_getLsbD_low (w1 w2 : BitVec 16) {j : Nat} (h : j < 10) :
    (extractC2 w1 w2).getLsbD j = w2.getLsbD (j + 6) := by
  have := w2.isLt
  rw [← BitVec.testBit_toNat, extractC2_eq_sum, Nat.testBit_two_pow_mul_add _ (by omega), if_pos h,
    Nat.testBit_div_two_pow, BitVec.testBit_toNat]

theorem extractC3_getLsbD (w3 : BitVec 16) (j : Nat) : (extractC3 w3).getLsbD j = w3.getLsbD (j + 6) := by
  rw [← BitVec.testBit_toNat, extractC3_eq_div, Nat.testBit_div_two_pow, BitVec.testBit_toNat]

theorem extractC4_getLsbD (w4 : BitVec 16) (j : Nat) : (extractC4 w4).getLsbD j = w4.getLsbD (j + 7) := by
  rw [← BitVec.testBit_toNat, extractC4_eq_div, Nat.testBit_div_two_pow, BitVec.testBit_toNat]

theorem extractC5_getLsbD_high (w2 w3 : BitVec 16) {j : Nat} (h : j < 6) :
    (extractC5 w2 w3).getLsbD (j + 6) = w2.getLsbD j := by
  rw [← BitVec.testBit_toNat, extractC5_eq_sum, Nat.testBit_two_pow_mul_add _ (by omega), if_neg (by omega),
    Nat.add_sub_cancel, testBit_toNat_mod w2 h]

theorem extractC5_getLsbD_low (w2 w3 : BitVec 16) {j : Nat} (h : j < 6) :
    (extractC5 w2 w3).getLsbD j = w3.getLsbD j := by
  rw [← BitVec.testBit_toNat, extractC5_eq_sum, Nat.testBit_two_pow_mul_add _ (by omega), if_pos h,
    testBit_toNat_mod w3 h]

theorem extractC6_getLsbD (w4 : BitVec 16) {j : Nat} (h : j < 7) : (extractC6 w4).getLsbD j = w4.getLsbD j := by
  rw [← BitVec.testBit_toNat, extractC6_eq_mod, testBit_toNat_mod w4 h]

/-! The words from the coefficients (R77), and words for given coefficients (R78). -/

theorem w1_eq_of_coefficients (w1 w2 : BitVec 16) :
    w1.toNat = (extractC1 w1).toNat <<< 3 ||| (extractC2 w1 w2).toNat >>> 10 := by
  have := w2.isLt
  have hlow : (extractC2 w1 w2).toNat >>> 10 = w1.toNat % 2 ^ 3 := by
    rw [Nat.shiftRight_eq_div_pow, extractC2_eq_sum]
    omega
  rw [hlow, shiftLeft_or_eq_add _ (by omega), extractC1_eq_div]
  omega

theorem w2_eq_of_coefficients (w1 w2 w3 : BitVec 16) :
    w2.toNat = ((extractC2 w1 w2).toNat &&& 0x3FF) <<< 6 ||| (extractC5 w2 w3).toNat >>> 6 := by
  have := w2.isLt
  have hlow : (extractC5 w2 w3).toNat >>> 6 = w2.toNat % 2 ^ 6 := by
    rw [Nat.shiftRight_eq_div_pow, extractC5_eq_sum]
    omega
  rw [hlow, shiftLeft_or_eq_add _ (by omega), Nat.and_two_pow_sub_one_eq_mod _ 10, extractC2_eq_sum]
  omega

theorem w3_eq_of_coefficients (w2 w3 : BitVec 16) :
    w3.toNat = (extractC3 w3).toNat <<< 6 ||| (extractC5 w2 w3).toNat &&& 0x3F := by
  rw [Nat.and_two_pow_sub_one_eq_mod _ 6, shiftLeft_or_eq_add _ (by omega), extractC3_eq_div, extractC5_eq_sum]
  omega

theorem w4_eq_of_coefficients (w4 : BitVec 16) : w4.toNat = (extractC4 w4).toNat <<< 7 ||| (extractC6 w4).toNat := by
  rw [shiftLeft_or_eq_add _ (extractC6 w4).isLt, extractC4_eq_div, extractC6_eq_mod]
  omega

/-- Coefficients in the ranges of R78 are those of the words put together from them as R77 says. -/
theorem exists_words_of_coefficients {k1 k2 k3 k4 k5 k6 : Nat} (h1 : k1 ≤ 8191) (h2 : k2 ≤ 8191) (h3 : k3 ≤ 1023)
    (h4 : k4 ≤ 511) (h5 : k5 ≤ 4095) (h6 : k6 ≤ 127) :
    ∃ w1 w2 w3 w4 : BitVec 16, (extractC1 w1).toNat = k1 ∧ (extractC2 w1 w2).toNat = k2 ∧ (extractC3 w3).toNat = k3 ∧
      (extractC4 w4).toNat = k4 ∧ (extractC5 w2 w3).toNat = k5 ∧ (extractC6 w4).toNat = k6 := by
  refine ⟨.ofNat 16 (2 ^ 3 * k1 + k2 / 2 ^ 10), .ofNat 16 (2 ^ 6 * (k2 % 2 ^ 10) + k5 / 2 ^ 6),
    .ofNat 16 (2 ^ 6 * k3 + k5 % 2 ^ 6), .ofNat 16 (2 ^ 7 * k4 + k6), ?_⟩
  simp only [extractC1_eq_div, extractC2_eq_sum, extractC3_eq_div, extractC4_eq_div, extractC5_eq_sum,
    extractC6_eq_mod, BitVec.toNat_ofNat]
  omega

/-! The outcome of CAL. -/

/-- CAL before it was done, with the four words, loads the coefficients (R75). -/
theorem exec_cal {s : State} (hc : s.block.calv = false) (h1 : s.block.w1v = true) (h2 : s.block.w2v = true)
    (h3 : s.block.w3v = true) (h4 : s.block.w4v = true) :
    exec .cal s = .next (s.answeredWith s.block.loadCoefficients ⟨.ok, 0⟩) := by
  have e : effect .cal s.block = s.block.loadCoefficients.returnOk 0#32 := by
    change s.block.runCal = _
    have hw := (wordsWritten_iff s.block).2 ⟨h1, h2, h3, h4⟩
    simp [Block.runCal, hc, hw]
  rw [exec_eq_answer, e, answer_returnOk]
  rfl

/-- Settles O23: the outcome is `exec_cal`, and each coefficient is the number R75 says. -/
theorem calExtractsTheCoefficients : Obligations.CalExtractsTheCoefficients := fun _ hc h1 h2 h3 h4 =>
  ⟨_, exec_cal hc h1 h2 h3 h4, rfl, rfl,
    extractC1_toNat _, extractC2_toNat _ _, extractC3_toNat _, extractC5_toNat _ _, extractC4_toNat _,
    extractC6_toNat _⟩

/-- CAL once calibrated raises E_RECAL (R76). -/
theorem effect_cal_of_calv {b : Block} (hc : b.calv = true) : effect .cal b = b.raise .recal := if_pos hc

/-- CAL with a word missing raises E_NOWORDS (R76). -/
theorem effect_cal_of_wordMissing {b : Block} (hc : b.calv = false) (hw : b.wordsWritten = false) :
    effect .cal b = b.raise .noWords := by
  change b.runCal = _
  simp [Block.runCal, hc, hw]

/-- Settles O24: each refusal is the block's shared one, `raise`. -/
theorem calIsRefusedTwiceOrEarly : Obligations.CalIsRefusedTwiceOrEarly := by
  refine fun s => ⟨fun hc => exec_of_raise (by decide) (effect_cal_of_calv hc), fun hc hmissing => ?_⟩
  rw [← wordsWritten_iff, Bool.not_eq_true] at hmissing
  exact exec_of_raise (by decide) (effect_cal_of_wordMissing hc hmissing)

/-- Settles O25: bit by bit the coefficients are the words, and `C2` and `C4` end below their registers' top bits. -/
theorem wordsAreRecoverableFromCoefficients : Obligations.WordsAreRecoverableFromCoefficients := by
  intro s hc h1 h2 h3 h4
  obtain ⟨-, hc2, -, hc4, -, -⟩ := loadCoefficients_coefficientRanges s.block
  exact ⟨_, exec_cal hc h1 h2 h3 h4, fun j _ => extractC1_getLsbD _ j, fun j hj => extractC2_getLsbD_high _ _ hj,
    fun j hj => extractC2_getLsbD_low _ _ hj, fun j hj => extractC5_getLsbD_high _ _ hj,
    fun j _ => extractC3_getLsbD _ j, fun j hj => extractC5_getLsbD_low _ _ hj,
    fun j _ => extractC4_getLsbD _ j, fun j hj => extractC6_getLsbD _ hj,
    getLsbD_of_toNat_lt (hc2.trans_lt (by decide)), getLsbD_of_toNat_lt (hc4.trans_lt (by decide)),
    getLsbD_of_toNat_lt (hc4.trans_lt (by decide)),
    w1_eq_of_coefficients _ _, w2_eq_of_coefficients _ _ _, w3_eq_of_coefficients _ _, w4_eq_of_coefficients _⟩

/-- Settles O26: the ranges are those the loaded coefficients lie in, and `exists_words_of_coefficients` reaches each
combination. -/
theorem coefficientRangesAreExact : Obligations.CoefficientRangesAreExact := by
  refine ⟨fun s hc h1 h2 h3 h4 => ⟨_, exec_cal hc h1 h2 h3 h4,
    loadCoefficients_coefficientRanges s.block⟩, fun k1 k2 k3 k4 k5 k6 hk1 hk2 hk3 hk4 hk5 hk6 => ?_⟩
  obtain ⟨v1, v2, v3, v4, hv⟩ := exists_words_of_coefficients hk1 hk2 hk3 hk4 hk5 hk6
  refine ⟨v1, v2, v3, v4, ?_⟩
  rintro s hc h1 h2 h3 h4 rfl rfl rfl rfl
  exact ⟨_, exec_cal hc h1 h2 h3 h4, hv⟩

end Sys2Proof.Machine
end

section
/-! COMP (R83 to R103). The registers it leaves satisfy its formulas and no later transaction disturbs them; the ranges of
each stage; its outcome in the three cases of R84. -/

namespace Sys2Proof.Machine

/-! The registers after COMP, each from the ones before it in the pipeline (R85 to R93). -/

theorem compensate_ut1_eq (b : Block) : b.compensate.ut1.toInt = 8 * (b.c5.toNat : Int) + 10000 := by
  rw [compensate_ut1_toInt, Block.valUt1, stageUt1]
  omega

theorem compensate_dt_eq (b : Block) : b.compensate.dt.toInt = (b.d2.toNat : Int) - b.compensate.ut1.toInt := by
  rw [compensate_dt_toInt, compensate_ut1_toInt]
  rfl

theorem compensate_off_eq (b : Block) : b.compensate.off.toInt =
    (b.c2.toNat : Int) + ((b.c4.toNat : Int) - 250) * b.compensate.dt.toInt / 4096 + 10000 := by
  rw [compensate_off_toInt, compensate_dt_toInt]
  rfl

theorem compensate_sens_eq (b : Block) : b.compensate.sens.toInt =
    (b.c1.toNat : Int) / 2 + ((b.c3.toNat : Int) + 200) * b.compensate.dt.toInt / 8192 + 3000 := by
  rw [compensate_sens_toInt, compensate_dt_toInt]
  rfl

theorem compensate_dt2_eq (b : Block) : b.compensate.dt2.toInt =
    b.compensate.dt.toInt - b.compensate.dt.toInt / 128 * (b.compensate.dt.toInt / 128) / 8 := by
  rw [compensate_dt2_toInt, compensate_dt_toInt]
  rfl

theorem compensate_t_eq (b : Block) :
    b.compensate.t.toInt = 200 + b.compensate.dt2.toInt * ((b.c6.toNat : Int) + 100) / 2048 := by
  rw [compensate_t_toInt, compensate_dt2_toInt]
  rfl

theorem valPx_eq (b : Block) : b.valPx =
    b.compensate.sens.toInt * ((b.d1.toNat : Int) - b.compensate.off.toInt) / 4096 + 1000 := by
  rw [compensate_sens_toInt, compensate_off_toInt]
  rfl

/-! A held result keeps satisfying the formulas (R99). -/

/-- Before the first COMP there is no result that could disagree with the coefficients. -/
theorem coherent_of_no_result {b : Block} (h : b.resv = false) : b.Coherent := by
  have hno {p : Prop} (hr : b.resv = true) : p := by simp [h] at hr
  exact ⟨hno, hno, hno, hno, hno, hno⟩

theorem coherent_storeInput {b : Block} (h : b.Coherent) (r : InputReg) (v : BitVec 16) :
    (b.storeInput r v).Coherent := by
  cases r <;> exact { h with resultHasInputs := fun hr => by simp [h.resultHasInputs hr] }

/-- A CAL that loads coefficients finds an Uninitialized block, which holds no result (R38 (b), R80). -/
theorem coherent_loadCoefficients {b : Block} (h : b.Coherent) (hc : b.calv = false) : b.loadCoefficients.Coherent :=
  coherent_of_no_result (Bool.eq_false_iff.2 fun hr => Bool.eq_false_iff.1 hc (h.resultHasInputs hr).1)

theorem coherent_compensate {b : Block} (hc : b.calv = true) (hs : b.sampleWritten = true) : b.compensate.Coherent where
  resultHasInputs := by simp [Block.ResultHasInputs, hc, (sampleWritten_iff b).1 hs]
  ut1 _ := by rw [compensate_ut1_eq, compensate_c5]
  off _ := by rw [compensate_off_eq, compensate_c2, compensate_c4]
  sens _ := by rw [compensate_sens_eq, compensate_c1, compensate_c3]
  dt2 _ := compensate_dt2_eq b
  t _ := by rw [compensate_t_eq, compensate_c6]

/-- Every transaction keeps the relations between a result and the coefficients. -/
theorem coherent_effect {b : Block} (h : b.Coherent) (i : Instr) : (effect i b).1.Coherent := by
  rcases effect_block_cases i b with ⟨c, e⟩ | ⟨r, d, -, e⟩ | ⟨-, hc, -, e⟩ | ⟨-, hc, hs, e⟩ | ⟨-, e⟩ | ⟨-, -, -, e⟩ |
      ⟨-, -, e⟩ <;> rw [e]
  case inr.inl => exact coherent_storeInput h r _
  case inr.inr.inl => exact coherent_loadCoefficients h hc
  case inr.inr.inr.inl => exact coherent_compensate hc hs
  all_goals exact { h with }

/-- Settles O53: a step leaves the block of an effect or the reset block. -/
theorem everyStepKeepsTheFormulas : Obligations.EveryStepKeepsTheFormulas := by
  intro s t h hstep
  rcases step_block_cases hstep with ⟨i, e⟩ | ⟨-, -, e⟩ <;> rw [e]
  · exact coherent_effect h i
  · exact reset_coherent

/-! The outcome in the three cases of R84. -/

/-- An enabled COMP writes its result back and answers OK (R83, R95). -/
theorem exec_comp {s : State} (hc : s.block.calv = true) (h1 : s.block.d1v = true) (h2 : s.block.d2v = true) :
    exec .comp s = .next (s.answeredWith s.block.compensate ⟨.ok, 0⟩) := by
  have e : effect .comp s.block = s.block.compensate.returnOk 0#32 := by
    change s.block.runComp = _
    simp [Block.runComp, hc, (sampleWritten_iff s.block).2 ⟨h1, h2⟩]
  rw [exec_eq_answer, e, answer_returnOk]
  rfl

/-- COMP before calibration raises E_NOCAL (R84). -/
theorem effect_comp_of_not_calv {b : Block} (hc : b.calv = false) : effect .comp b = b.raise .noCal := by
  change b.runComp = _
  simp [Block.runComp, hc]

/-- COMP with a sample word missing raises E_NOSAMPLE (R84). -/
theorem effect_comp_of_sampleMissing {b : Block} (hc : b.calv = true) (hs : b.sampleWritten = false) :
    effect .comp b = b.raise .noSample := by
  change b.runComp = _
  simp [Block.runComp, hc, hs]

/-- Settles O30: each refusal is the block's shared one, `raise`. -/
theorem compIsRefusedWithoutInputs : Obligations.CompIsRefusedWithoutInputs := by
  refine fun s => ⟨fun hc => exec_of_raise (by decide) (effect_comp_of_not_calv hc), fun hc hmissing => ?_⟩
  have hs : s.block.sampleWritten = false := by
    rcases hmissing with h | h <;> simp [Block.sampleWritten, h]
  exact exec_of_raise (by decide) (effect_comp_of_sampleMissing hc hs)

/-- Settles O29: the write-back is an update of these nine fields. -/
theorem compWritesItsResultsOnly : Obligations.CompWritesItsResultsOnly :=
  fun _ hc h1 h2 => ⟨_, exec_comp hc h1 h2, rfl, rfl⟩

/-! The ranges of the products and of the registers. -/

theorem sensProduct_range (b : Block) :
    -52295480 ≤ ((b.c3.toNat : Int) + 200) * b.valDt ∧ ((b.c3.toNat : Int) + 200) * b.valDt ≤ 67919305 := by
  have := b.c3.isLt
  exact mul_mem_of_corners (a₀ := 200) (a₁ := 1223) (by omega) (valDt_range b) (by decide) (by decide)

theorem temperatureProduct_range (b : Block) :
    -12890876 ≤ b.valDt2 * ((b.c6.toNat : Int) + 100) ∧ b.valDt2 * ((b.c6.toNat : Int) + 100) ≤ 7286473 := by
  have := b.c6.isLt
  exact mul_mem_of_corners (b₀ := 100) (b₁ := 227) (valDt2_range b) (by omega) (by decide) (by decide)

theorem compensate_dt_range (b : Block) : -42760 ≤ b.compensate.dt.toInt ∧ b.compensate.dt.toInt ≤ 55535 :=
  compensate_dt_toInt b ▸ valDt_range b

theorem compensate_off_range {b : Block} (h : b.CoefficientRanges) :
    6610 ≤ b.compensate.off.toInt ∧ b.compensate.off.toInt ≤ 21729 :=
  compensate_off_toInt b ▸ valOff_range h

theorem compensate_sens_range (b : Block) : -3384 ≤ b.compensate.sens.toInt ∧ b.compensate.sens.toInt ≤ 15385 :=
  compensate_sens_toInt b ▸ valSens_range b

theorem compensate_dt2_range (b : Block) : -56788 ≤ b.compensate.dt2.toInt ∧ b.compensate.dt2.toInt ≤ 32099 :=
  compensate_dt2_toInt b ▸ valDt2_range b

theorem compensate_t_range (b : Block) : -6095 ≤ b.compensate.t.toInt ∧ b.compensate.t.toInt ≤ 3757 :=
  compensate_t_toInt b ▸ valT_range b

/-- Settles O31: both values are linear in `C5` and `D2`. -/
theorem compBaselineAndDelta : Obligations.CompBaselineAndDelta := by
  intro s hc h1 h2
  refine ⟨_, exec_comp hc h1 h2, ?_⟩
  rw [answeredWith_block]
  have hut1 := compensate_ut1_eq s.block
  have hdt := compensate_dt_eq s.block
  have := s.block.c5.isLt
  have := s.block.d2.isLt
  refine ⟨hut1, by omega, by omega, hdt, by omega, by omega, by omega, fun hd2 hc5 => ?_, fun hd2 hc5 => ?_⟩ <;>
  · rw [hdt, hut1, hd2, hc5]
    decide

/-- Settles O32: the product lies between its corners, and the rest is linear in the shifted product. -/
theorem compOffset : Obligations.CompOffset := by
  intro s hc h1 h2
  refine ⟨_, exec_comp hc h1 h2, ?_⟩
  rw [answeredWith_block]
  refine ⟨compensate_off_eq s.block, fun hranges => ?_⟩
  have hfactor : -250 ≤ (s.block.c4.toNat : Int) - 250 ∧ (s.block.c4.toNat : Int) - 250 ≤ 261 := by
    obtain ⟨-, -, -, hc4, -⟩ := hranges
    omega
  have hproduct : -13883750 ≤ ((s.block.c4.toNat : Int) - 250) * s.block.compensate.dt.toInt ∧
      ((s.block.c4.toNat : Int) - 250) * s.block.compensate.dt.toInt ≤ 14494635 :=
    mul_mem_of_corners hfactor (compensate_dt_range s.block) (by decide) (by decide)
  exact ⟨hfactor, hproduct, by omega, compensate_off_range hranges⟩

/-- Settles O33: by `sensProduct_range`; the rest is linear in the shifted product. -/
theorem compSensitivity : Obligations.CompSensitivity := by
  intro s hc h1 h2
  refine ⟨_, exec_comp hc h1 h2, ?_⟩
  rw [answeredWith_block]
  have hsens := compensate_sens_eq s.block
  have hproduct := sensProduct_range s.block
  rw [← compensate_dt_toInt] at hproduct
  have := s.block.c1.isLt
  have := s.block.c3.isLt
  obtain ⟨hlow, hhigh⟩ := compensate_sens_range s.block
  refine ⟨hsens, by omega, by omega, hproduct, by omega, hlow, hhigh, fun h0 h3 hdt => ?_⟩
  rw [hsens, h0, h3, hdt]
  decide

/-! The pressure (R89, R90). -/

theorem compensate_p_toNat (b : Block) : (b.compensate.p.toNat : Int) = b.valPx % 65536 := by
  rw [compensate_p, narrowPx, BitVec.toNat_ofInt]
  omega

theorem compensate_povf_iff (b : Block) : b.compensate.povf = true ↔ b.valPx < 0 ∨ 65535 < b.valPx := by
  rw [compensate_povf, povfOf, decide_eq_true_iff]

/-- Settles O34: `P` is the remainder of `px`, which is `px` itself exactly within 16 bits. -/
theorem compPressure : Obligations.CompPressure := by
  intro s hc h1 h2
  refine ⟨_, exec_comp hc h1 h2, fun px hpx => ?_⟩
  rw [answeredWith_block] at hpx ⊢
  rw [← valPx_eq] at hpx
  have hp := hpx ▸ compensate_p_toNat s.block
  have hpovf := hpx ▸ compensate_povf_iff s.block
  refine ⟨hp, hpovf, fun hfits => ?_, fun hover => ⟨?_, -(px / 65536), by omega⟩, by omega, by omega⟩
  · have := mt hpovf.2 (Bool.eq_false_iff.1 hfits)
    omega
  · have := hpovf.1 hover
    omega

/-- Settles O35: the two factors have the ranges of R87 and R88, and the named inputs give their ends. -/
theorem compFullPressureRange : Obligations.CompFullPressureRange := by
  intro s hc h1 h2 hranges
  refine ⟨_, exec_comp hc h1 h2, ?_⟩
  rw [answeredWith_block]
  rintro f m px hf rfl rfl
  have hfactor : -21729 ≤ f ∧ f ≤ 58925 := by
    have := compensate_off_range hranges
    have := s.block.d1.isLt
    omega
  have hproduct : -334300665 ≤ s.block.compensate.sens.toInt * f ∧ s.block.compensate.sens.toInt * f ≤ 906561125 :=
    mul_mem_of_corners (compensate_sens_range s.block) hfactor (by decide) (by decide)
  refine ⟨hfactor, hproduct, by omega, fun k1 k2 k3 k4 k5 kd1 kd2 => ?_, fun k1 k2 k3 k4 k5 kd1 kd2 => ?_, ?_⟩
  case refine_3 => rw [compensate_p_toNat, valPx_eq, hf]
  all_goals
    rw [hf, compensate_sens_eq, compensate_off_eq, compensate_dt_eq, compensate_ut1_eq, k1, k2, k3, k4, k5, kd1, kd2]
    decide

/-! The second-order correction and the temperature (R91 to R94, R99). -/

/-- A square is below 8 exactly up to 2 in size. -/
theorem mul_self_lt_eight_iff (q : Int) : q * q < 8 ↔ -2 ≤ q ∧ q ≤ 2 := by
  constructor
  · intro h
    constructor <;> nlinarith
  · rintro ⟨hlow, hhigh⟩
    nlinarith

/-- The correction only ever lowers `DT` (R91). -/
theorem compensate_dt2_le_dt (b : Block) : b.compensate.dt2.toInt ≤ b.compensate.dt.toInt := by
  have := mul_self_nonneg (b.compensate.dt.toInt / 128)
  have := compensate_dt2_eq b
  omega

/-- The correction vanishes where `floor(DT/128)` is at most 2 in size (R92). -/
theorem compensate_dt2_eq_dt {b : Block} (hlow : -256 ≤ b.compensate.dt.toInt) (hhigh : b.compensate.dt.toInt ≤ 383) :
    b.compensate.dt2.toInt = b.compensate.dt.toInt := by
  have := mul_self_nonneg (b.compensate.dt.toInt / 128)
  have := (mul_self_lt_eight_iff (b.compensate.dt.toInt / 128)).2 (by omega)
  have := compensate_dt2_eq b
  omega

/-- Settles O36: the correction is the square of `floor(DT/128)` over 8, which is 0 exactly for squares below 8. -/
theorem compSecondOrderDelta : Obligations.CompSecondOrderDelta := by
  intro s hc h1 h2
  refine ⟨_, exec_comp hc h1 h2, ?_⟩
  rw [answeredWith_block]
  intro q hq
  have hdt := compensate_dt_range s.block
  have hdt2 := compensate_dt2_eq s.block
  rw [← hq] at hdt2
  have hrange : -335 ≤ q ∧ q ≤ 433 := by omega
  have hsquare : 0 ≤ q * q ∧ q * q ≤ 187489 := ⟨mul_self_nonneg q, by nlinarith⟩
  have hsmall := mul_self_lt_eight_iff q
  have hequal : s.block.compensate.dt2 = s.block.compensate.dt ↔ q * q < 8 := by
    rw [← BitVec.toInt_inj]
    omega
  refine ⟨hdt2, by omega, compensate_dt2_range s.block, hrange, hsquare, by omega, hequal, hsmall, by omega, by omega,
    fun h => ?_⟩
  obtain rfl : q = -3 := by omega
  omega

/-- Refutes O37: at 895 the remark fails, where `dt >> 7` goes from 6 to 7 and the correction from 4 to 6. -/
theorem not_secondOrderDeltaIsMonotone : ¬ Obligations.SecondOrderDeltaIsMonotone := by
  intro h
  have hbefore : stageDt2 895 = 891 := by decide
  have hafter : stageDt2 896 = 890 := by decide
  have := h 895 896 (by decide) (by decide) (by decide)
  omega

/-- Settles O38, by `temperatureProduct_range`. -/
theorem compTemperature : Obligations.CompTemperature := by
  intro s hc h1 h2
  refine ⟨_, exec_comp hc h1 h2, ?_⟩
  rw [answeredWith_block]
  have hproduct := temperatureProduct_range s.block
  rw [← compensate_dt2_toInt] at hproduct
  have := s.block.c6.isLt
  exact ⟨compensate_t_eq s.block, by omega, hproduct, by omega, compensate_t_range s.block⟩

/-- Settles O39: `T` is `t1` with `DT2` for `DT`, and both grow with it. -/
theorem temperatureIsAtMostFirstOrder : Obligations.TemperatureIsAtMostFirstOrder := by
  intro s hc h1 h2
  refine ⟨_, exec_comp hc h1 h2, ?_⟩
  rw [answeredWith_block, compensate_c6]
  refine ⟨compensate_t_eq s.block, ?_⟩
  rintro t1 rfl
  have hdt2 := compensate_dt2_eq s.block
  have ht := compensate_t_eq s.block
  refine ⟨?_, fun hlow hhigh => ?_, fun hc6 hdt => ?_, fun hc6 hdt => ?_⟩
  · have hproduct := mul_le_mul_of_nonneg_right (compensate_dt2_le_dt s.block)
      (show 0 ≤ (s.block.c6.toNat : Int) + 100 by omega)
    have hshifted := Int.ediv_le_ediv (c := 2048) (by decide) hproduct
    omega
  · rw [ht, compensate_dt2_eq_dt hlow hhigh]
  · rw [ht, hdt2, hc6, hdt]
    decide
  · rw [ht, hdt2, hc6, hdt]
    decide

/-! Purity (R98). -/

/-- Two blocks with the same sample and the same coefficients get the same result. -/
theorem sameResult_compensate {b b' : Block} (hd1 : b'.d1 = b.d1) (hd2 : b'.d2 = b.d2) (hc1 : b'.c1 = b.c1)
    (hc2 : b'.c2 = b.c2) (hc3 : b'.c3 = b.c3) (hc4 : b'.c4 = b.c4) (hc5 : b'.c5 = b.c5) (hc6 : b'.c6 = b.c6) :
    b.compensate.SameResult b'.compensate := by
  simp [Block.SameResult, Block.valPx, Block.valT, Block.valOff, Block.valSens, Block.valDt2, Block.valDt,
    Block.valUt1, hd1, hd2, hc1, hc2, hc3, hc4, hc5, hc6]

/-- A second COMP finds the sample and the coefficients of the first. -/
theorem compensate_compensate (b : Block) : b.compensate.compensate = b.compensate := by
  simp only [Block.compensate, Block.valPx, Block.valT, Block.valOff, Block.valSens, Block.valDt2, Block.valDt,
    Block.valUt1]

/-- Settles O40: the values mention only these registers, and COMP writes none of them. -/
theorem compIsAPureFunction : Obligations.CompIsAPureFunction := by
  refine ⟨fun s r hc h1 h2 rc r1 r2 hd1 hd2 hc1 hc2 hc3 hc4 hc5 hc6 => ?_, fun s hc h1 h2 => ?_⟩
  · obtain ⟨ut1, dt, off, sens, dt2, p, t, povf, -⟩ := sameResult_compensate hd1 hd2 hc1 hc2 hc3 hc4 hc5 hc6
    exact ⟨_, _, exec_comp hc h1 h2, exec_comp rc r1 r2, rfl, rfl, ut1, dt, off, sens, dt2, p, t, povf⟩
  · exact ⟨_, _, exec_comp hc h1 h2, exec_comp (by simpa) (by simpa) (by simpa), compensate_compensate s.block⟩

/-- Settles O42: each value from its equation, where the product is 0. -/
theorem compCornerCases : Obligations.CompCornerCases := by
  intro s hc h1 h2
  refine ⟨_, exec_comp hc h1 h2, ?_⟩
  rw [answeredWith_block]
  refine ⟨fun hdt => ?_, fun hd1 => ?_, fun hc5 => ?_⟩
  · rw [compensate_off_eq, compensate_sens_eq, compensate_t_eq, compensate_dt2_eq, hdt]
    omega
  · have hpx : s.block.valPx = 1000 := by simp [valPx_eq, hd1]
    have hp := compensate_p_toNat s.block
    have hpovf := compensate_povf_iff s.block
    rw [hpx] at hp hpovf
    exact ⟨by omega, Bool.eq_false_iff.2 (mt hpovf.1 (by decide))⟩
  · rw [compensate_ut1_eq, hc5]
    decide

end Sys2Proof.Machine
end

section
/-! The 32-bit network of R96 against the integer stages of R85 to R93. `BitVec.ofInt 32` takes sums, differences and
products to those of words whatever the operands; a right shift it takes to an arithmetic shift only of a number that fits
32 bits. So it is each shifted product, and nothing else, whose range counts (R97). -/

namespace Sys2Proof.Machine

/-! Words that stand for integers. -/

theorem ofInt_sub_eq (w : Nat) (x y : Int) : BitVec.ofInt w (x - y) = BitVec.ofInt w x - BitVec.ofInt w y := by
  rw [Int.sub_eq_add_neg, BitVec.ofInt_add, BitVec.ofInt_neg, BitVec.sub_eq_add_neg]

/-- The arithmetic shift of a word whose number fits is the shift of the number (R9). -/
theorem sshiftRight_ofInt {z : Int} (n : Nat) (h : -(2 ^ 31) ≤ z ∧ z < 2 ^ 31) :
    (BitVec.ofInt 32 z).sshiftRight n = BitVec.ofInt 32 (sra z n) := by
  have hshift : ((BitVec.ofInt 32 z).sshiftRight n).toInt = sra z n := by
    rw [BitVec.toInt_sshiftRight, toInt_ofInt_of_fits (by decide) h, Int.shiftRight_eq_div_pow, sra]
    push_cast
    rfl
  rw [← hshift, BitVec.ofInt_toInt]

/-- An unsigned register zero-extended to 32 bits stands for its number. -/
theorem setWidth_eq_ofInt {n : Nat} (x : BitVec n) : x.setWidth 32 = BitVec.ofInt 32 x.toNat := by
  rw [BitVec.ofInt_natCast, BitVec.ofNat_toNat]

/-- The low half of a word that stands for an integer. -/
theorem setWidth_ofInt (z : Int) : (BitVec.ofInt 32 z).setWidth 16 = BitVec.ofInt 16 z := by
  apply BitVec.eq_of_toNat_eq
  rw [BitVec.toNat_setWidth, BitVec.toNat_ofInt, BitVec.toNat_ofInt]
  omega

/-! The network's values, in the order of the pipeline. -/

theorem netUt1_eq (b : Block) : (b.c5.setWidth 32 <<< 3) + 10000 = BitVec.ofInt 32 b.valUt1 := by
  rw [BitVec.shiftLeft_eq_mul_twoPow, setWidth_eq_ofInt, Block.valUt1, stageUt1, BitVec.ofInt_add, BitVec.ofInt_mul]
  rfl

theorem netDt_eq (b : Block) : b.netDt = BitVec.ofInt 32 b.valDt := by
  rw [Block.netDt, netUt1_eq, setWidth_eq_ofInt, ← ofInt_sub_eq]
  rfl

theorem netOff_eq (b : Block) : b.netOff = BitVec.ofInt 32 b.valOff := by
  have := b.c4.isLt
  have hfits : -76839720 ≤ ((b.c4.toNat : Int) - 250) * b.valDt ∧ ((b.c4.toNat : Int) - 250) * b.valDt ≤ 99796395 :=
    mul_mem_of_corners (a₀ := -250) (a₁ := 1797) (by omega) (valDt_range b) (by decide) (by decide)
  have hproduct : (b.c4.setWidth 32 - 250) * b.netDt = BitVec.ofInt 32 (((b.c4.toNat : Int) - 250) * b.valDt) := by
    rw [BitVec.ofInt_mul, ofInt_sub_eq, netDt_eq, setWidth_eq_ofInt]
    rfl
  rw [Block.netOff, hproduct, sshiftRight_ofInt _ (by omega), setWidth_eq_ofInt, Block.valOff, stageOff,
    BitVec.ofInt_add, BitVec.ofInt_add]
  rfl

theorem c1_half_eq (b : Block) : b.c1.setWidth 32 >>> 1 = BitVec.ofInt 32 ((b.c1.toNat : Int) / 2) := by
  have := b.c1.isLt
  apply BitVec.eq_of_toNat_eq
  rw [BitVec.toNat_ushiftRight, BitVec.toNat_setWidth, BitVec.toNat_ofInt, Nat.shiftRight_eq_div_pow]
  omega

theorem netSens_eq (b : Block) : b.netSens = BitVec.ofInt 32 b.valSens := by
  have hfits := sensProduct_range b
  have hproduct : (b.c3.setWidth 32 + 200) * b.netDt = BitVec.ofInt 32 (((b.c3.toNat : Int) + 200) * b.valDt) := by
    rw [BitVec.ofInt_mul, BitVec.ofInt_add, netDt_eq, setWidth_eq_ofInt]
    rfl
  rw [Block.netSens, hproduct, sshiftRight_ofInt _ (by omega), c1_half_eq, Block.valSens, stageSens,
    BitVec.ofInt_add, BitVec.ofInt_add]
  rfl

/-- The pressure product with `OFF` as wide as the storage widths of `C2` and `C4` allow (R97). -/
theorem pressureProduct_storageRange (b : Block) :
    -780742595 ≤ b.valSens * ((b.d1.toNat : Int) - b.valOff) ∧
      b.valSens * ((b.d1.toNat : Int) - b.valOff) ≤ 1143028575 := by
  have := b.d1.isLt
  have := valOff_storageRange b
  exact mul_mem_of_corners (b₀ := -50747) (b₁ := 74295) (valSens_range b) (by omega) (by decide) (by decide)

theorem netPx_eq (b : Block) : b.netPx = BitVec.ofInt 32 b.valPx := by
  have hfits := pressureProduct_storageRange b
  have hproduct : b.netSens * (b.d1.setWidth 32 - b.netOff) =
      BitVec.ofInt 32 (b.valSens * ((b.d1.toNat : Int) - b.valOff)) := by
    rw [BitVec.ofInt_mul, ofInt_sub_eq, netSens_eq, netOff_eq, setWidth_eq_ofInt]
  rw [Block.netPx, hproduct, sshiftRight_ofInt _ (by omega), Block.valPx, stagePx, BitVec.ofInt_add]
  rfl

theorem netDt2_eq (b : Block) : b.netDt2 = BitVec.ofInt 32 b.valDt2 := by
  have hdt := valDt_range b
  have hq : -335 ≤ sra b.valDt 7 ∧ sra b.valDt 7 ≤ 433 := by
    unfold sra
    omega
  have hfits : -145055 ≤ sra b.valDt 7 * sra b.valDt 7 ∧ sra b.valDt 7 * sra b.valDt 7 ≤ 187489 :=
    mul_mem_of_corners hq hq (by decide) (by decide)
  rw [Block.netDt2, netDt_eq, sshiftRight_ofInt _ (by omega), ← BitVec.ofInt_mul, sshiftRight_ofInt _ (by omega),
    ← ofInt_sub_eq]
  rfl

theorem netT_eq (b : Block) : b.netT = BitVec.ofInt 32 b.valT := by
  have hfits := temperatureProduct_range b
  have hproduct : b.netDt2 * (b.c6.setWidth 32 + 100) = BitVec.ofInt 32 (b.valDt2 * ((b.c6.toNat : Int) + 100)) := by
    rw [BitVec.ofInt_mul, BitVec.ofInt_add, netDt2_eq, setWidth_eq_ofInt]
    rfl
  rw [Block.netT, hproduct, sshiftRight_ofInt _ (by omega), Block.valT, stageT, BitVec.ofInt_add]
  rfl

theorem netPovf_eq (b : Block) : (b.netPx.slt 0 || BitVec.slt 65535 b.netPx) = povfOf b.valPx := by
  have hfits := pressureProduct_storageRange b
  have hpx : b.netPx.toInt = b.valPx := by
    rw [netPx_eq, toInt_ofInt_of_fits (by decide)]
    simp only [Block.valPx, stagePx, sra]
    omega
  rw [BitVec.slt, BitVec.slt, hpx, povfOf, Bool.decide_or]
  rfl

/-- Settles O41: each register of the network stands for the integer of its stage. -/
theorem thirtyTwoBitsSuffice : Obligations.ThirtyTwoBitsSuffice := by
  intro b
  rw [Block.compensate32, netUt1_eq, netDt_eq, netOff_eq, netSens_eq, netDt2_eq, netPovf_eq, netPx_eq, netT_eq,
    setWidth_ofInt, setWidth_ofInt]
  rfl

end Sys2Proof.Machine
end

section
/-! The averaging commands (R104 to R111): each by its outcome, and the sums and the means wherever they fit their
registers. -/

namespace Sys2Proof.Machine

/-- An instruction whose effect is to return OK answers OK with that block and value (R11, R130). -/
theorem exec_of_returnOk {i : Instr} {s : State} {b : Block} {v : Data} (h : effect i s.block = b.returnOk v) :
    exec i s = .next (s.answeredWith b ⟨.ok, v⟩) := by
  rw [exec_eq_answer, h, answer_returnOk]

/-- Settles O43: the effect of NOP returns the block it is given. -/
theorem nopChangesNothing : Obligations.NopChangesNothing := fun _ => exec_of_returnOk rfl

/-- Settles O44: the effect of ACLR is `clearSums`, whatever the block. -/
theorem aclrClearsTheSums : Obligations.AclrClearsTheSums := fun _ => exec_of_returnOk rfl

/-! ACC (R106, R107). -/

/-- ACC before a result raises E_NORES (R106). -/
theorem effect_acc_of_not_resv {b : Block} (hr : b.resv = false) : effect .acc b = b.raise .noRes := by
  change b.runAcc = _
  simp [Block.runAcc, hr]

/-- ACC at the largest count raises E_ACCFULL (R106). -/
theorem effect_acc_of_full {b : Block} (hr : b.resv = true) (hn : b.accn = 65535#16) :
    effect .acc b = b.raise .accFull := by
  change b.runAcc = _
  simp [Block.runAcc, hr, hn]

theorem accumulate_accp_of_fits {b : Block} (h : b.accp.toNat + b.p.toNat < 4294967296) :
    b.accumulate.accp.toNat = b.accp.toNat + b.p.toNat := by
  rw [accumulate_accp, narrowU_of_fits _ h]

theorem accumulate_acct_of_fits {b : Block} (hlow : -2147483648 ≤ b.acct.toInt + b.t.toInt)
    (hhigh : b.acct.toInt + b.t.toInt < 2147483648) : b.accumulate.acct.toInt = b.acct.toInt + b.t.toInt := by
  rw [accumulate_acct, narrowS_of_fits _ (by decide) ⟨hlow, hhigh⟩]

/-- Settles O45: an accepted ACC leaves `accumulate`, and each refusal is the block's shared one, `raise`. -/
theorem accAddsTheReading : Obligations.AccAddsTheReading :=
  ⟨fun _ hr hn => ⟨_, exec_acc hr hn, rfl, rfl, accumulate_accn_toNat hn, accumulate_accp_of_fits,
      accumulate_acct_of_fits⟩,
    fun _ hr => exec_of_raise (by decide) (effect_acc_of_not_resv hr),
    fun _ hr hn => exec_of_raise (by decide) (effect_acc_of_full hr hn)⟩

/-- The sums of at most 65535 readings (R107). -/
theorem sums_le_of_sumRanges {b : Block} (h : b.SumRanges) :
    b.accp.toNat ≤ 4294836225 ∧ -399435825 ≤ b.acct.toInt ∧ b.acct.toInt ≤ 246214995 := by
  have := b.accn.isLt
  obtain ⟨haccp, hlow, hhigh⟩ := h
  omega

/-- Settles O46: ACC keeps the ranges of R38 (f), in which the sums are exact and fit. -/
theorem sumsNeverOverflow : Obligations.SumsNeverOverflow := by
  intro s h hr hn
  obtain ⟨hp, ht⟩ := accumulate_sums h.sumRanges h.temperatureRanges.1 hn
  obtain ⟨haccp, hacct⟩ := sums_le_of_sumRanges (inv_accumulate h hr hn).sumRanges
  exact ⟨_, exec_acc hr hn, Nat.le_of_lt_succ (BitVec.isLt _), hp, haccp, ht, hacct⟩

/-! AVG (R108 to R111). -/

theorem divide_pavg_of_fits {b : Block} (h : b.accp.toNat / b.accn.toNat < 65536) :
    b.divide.pavg.toNat = b.accp.toNat / b.accn.toNat := by
  rw [divide_pavg, narrowU_of_fits _ h]

theorem divide_tavg_of_fits {b : Block} (hlow : -32768 ≤ tdiv b.acct.toInt b.accn.toNat)
    (hhigh : tdiv b.acct.toInt b.accn.toNat < 32768) : b.divide.tavg.toInt = tdiv b.acct.toInt b.accn.toNat := by
  rw [divide_tavg, narrowS_of_fits _ (by decide) ⟨hlow, hhigh⟩]

/-- The quotient truncated toward zero of a number that is not negative is the floor quotient (R10). -/
theorem tdiv_of_nonneg {a : Int} (n : Int) (h : 0 ≤ a) : tdiv a n = a / n := Int.tdiv_eq_ediv_of_nonneg h

/-- The quotient truncated toward zero of a negative number is minus the floor quotient of its size (R10). -/
theorem tdiv_of_neg {a : Int} (n : Int) (h : a < 0) : tdiv a n = -(-a / n) := by
  rw [← tdiv_of_nonneg n (by omega), tdiv, tdiv, Int.neg_tdiv, Int.neg_neg]

theorem divide_tavg_of_nonneg {b : Block} (h : 0 ≤ b.acct.toInt) (hfits : b.acct.toInt / b.accn.toNat < 32768) :
    b.divide.tavg.toInt = b.acct.toInt / b.accn.toNat := by
  have hq : 0 ≤ b.acct.toInt / b.accn.toNat := Int.ediv_nonneg h (Int.natCast_nonneg _)
  rw [← tdiv_of_nonneg _ h] at hfits hq ⊢
  exact divide_tavg_of_fits (by omega) hfits

theorem divide_tavg_of_neg {b : Block} (h : b.acct.toInt < 0) (hfits : -b.acct.toInt / b.accn.toNat ≤ 32768) :
    b.divide.tavg.toInt = -(-b.acct.toInt / b.accn.toNat) := by
  have hq : 0 ≤ -b.acct.toInt / b.accn.toNat := Int.ediv_nonneg (by omega) (Int.natCast_nonneg _)
  rw [← tdiv_of_neg _ h]
  apply divide_tavg_of_fits <;> rw [tdiv_of_neg _ h] <;> omega

/-- AVG of no readings raises E_DIV0 (R109). -/
theorem effect_avg_of_empty {b : Block} (hn : b.accn = 0#16) : effect .avg b = b.raise .div0 := if_pos hn

/-- Settles O47: AVG of some readings leaves `divide`, whose temperature mean goes by the sign of the sum. -/
theorem avgDividesTheSums : Obligations.AvgDividesTheSums :=
  ⟨fun _ hn => ⟨_, exec_avg hn, rfl, rfl, divide_pavg_of_fits, divide_tavg_of_nonneg, divide_tavg_of_neg⟩,
    fun _ hn => exec_of_raise (by decide) (effect_avg_of_empty hn)⟩

/-- What a division truncated toward zero leaves has the sign of the dividend and is below the divisor (R110). -/
theorem exists_tdiv_remainder (a : Int) {n : Int} (hn : 0 < n) :
    ∃ r : Int, tdiv a n * n = a - r ∧ -n < r ∧ r < n ∧ (0 ≤ a → 0 ≤ r) ∧ (a ≤ 0 → r ≤ 0) := by
  have hsplit : tdiv a n * n + a.tmod n = a := Int.tdiv_mul_add_tmod a n
  refine ⟨a.tmod n, by omega, Int.lt_tmod_of_pos a hn, Int.tmod_lt_of_pos a hn, Int.tmod_nonneg n, fun ha => ?_⟩
  have hneg : 0 ≤ (-a).tmod n := Int.tmod_nonneg n (by omega)
  rw [Int.neg_tmod] at hneg
  omega

/-- Settles O49: the temperature mean is a quotient truncated toward zero, in every case and in the three examples. -/
theorem temperatureMeanTruncatesTowardZero : Obligations.TemperatureMeanTruncatesTowardZero := by
  intro s h hn
  refine ⟨_, exec_avg hn, divide_pavg_toNat h.sumRanges, ?_⟩
  rw [answeredWith_block, divide_tavg_toInt h.sumRanges hn]
  refine ⟨exists_tdiv_remainder _ (by bv_omega), fun hcount hsum => ?_, fun hcount hsum => ?_,
    fun hcount hsum => ?_⟩ <;>
  · rw [hcount, hsum]
    decide

/-- Settles O50: `k * p` over `k` is `p`, and `k * t` over `k` is `t` whatever its sign, so both fit their registers. -/
theorem meanOfEqualReadings : Obligations.MeanOfEqualReadings := by
  intro s p t hn haccp hacct
  have hcount : 0 < s.block.accn.toNat := by bv_omega
  have hpavg : s.block.accp.toNat / s.block.accn.toNat = p.toNat := by rw [haccp, Nat.mul_div_cancel_left _ hcount]
  have htavg : tdiv s.block.acct.toInt s.block.accn.toNat = t.toInt := by
    rw [hacct]
    exact Int.mul_tdiv_cancel_left _ (by omega)
  refine ⟨_, exec_avg hn, BitVec.eq_of_toNat_eq ?_, BitVec.eq_of_toInt_eq ?_⟩
  · rw [answeredWith_block, divide_pavg_of_fits (hpavg ▸ p.isLt), hpavg]
  · rw [answeredWith_block, divide_tavg_of_fits (htavg ▸ BitVec.le_toInt t) (htavg ▸ BitVec.toInt_lt), htavg]

end Sys2Proof.Machine
end

section
/-! What the host's sequences present to the block (R62, R63, R120 to R123, R127), and how the block runs a list of
transactions: the layer the statements about INIT, READ_ONCE and READ_AVG rest on. -/

namespace Sys2Proof.Machine

/-! The assembler's words, as the transactions they are (R62, R63). -/

/-- `wr` of a 16-bit word to an input register stores that word (R62, R68). -/
theorem transact_asmWr (b : Block) (r : InputReg) (v : BitVec 16) :
    b.transact (asmWr r.name v.toNat) = (b.storeInput r v, ⟨.ok, 0⟩) := by
  have himm : imm16 (BitVec.ofInt 32 v.toNat) = v := by
    apply BitVec.eq_of_toNat_eq
    rw [imm16_toNat, BitVec.toNat_ofInt]
    omega
  rw [← effect_decode, asmWr, decode_txnWord_write, effect_decodeWrite_input, Block.writeAt, himm]
  rfl

/-- `rd` answers the register and leaves the block (R62, R71). -/
theorem transact_asmRd (b : Block) (r : RegName) : b.transact (asmRd r) = (b, ⟨.ok, b.readRegister r⟩) := by
  rw [← effect_decode, asmRd, decode_txnWord_read, effect_decodeRead_addr]
  rfl

/-- A write to `CMD` is the command of its opcode (R55, R69). -/
theorem transact_cmd (b : Block) (op : Data) : b.transact (txnWord true 0 op) = b.command op := by
  rw [← effect_decode, decode_txnWord_cmd, effect_decodeCommand]

/-- `cal` of an Uninitialized block that has its four words (R63, R75). -/
theorem transact_asmCal {b : Block} (hc : b.calv = false) (hw : b.wordsWritten = true) :
    b.transact asmCal = (b.loadCoefficients, ⟨.ok, 0⟩) := by
  have e : b.runCal = b.loadCoefficients.returnOk 0#32 := by simp [Block.runCal, hc, hw]
  exact (transact_cmd b 1).trans e

/-- `comp` of a Ready block that has its sample (R63, R83). -/
theorem transact_asmComp {b : Block} (hc : b.calv = true) (hs : b.sampleWritten = true) :
    b.transact asmComp = (b.compensate, ⟨.ok, 0⟩) := by
  have e : b.runComp = b.compensate.returnOk 0#32 := by simp [Block.runComp, hc, hs]
  exact (transact_cmd b 2).trans e

/-- `aclr` of any block (R63, R105). -/
theorem transact_asmAclr (b : Block) : b.transact asmAclr = (b.clearSums, ⟨.ok, 0⟩) := transact_cmd b 3

/-- `acc` of a block that holds a result and has not counted to the end (R63, R106). -/
theorem transact_asmAcc {b : Block} (hr : b.resv = true) (hn : b.accn ≠ 65535#16) :
    b.transact asmAcc = (b.accumulate, ⟨.ok, 0⟩) := by
  have e : b.runAcc = b.accumulate.returnOk 0#32 := by simp [Block.runAcc, hr, hn]
  exact (transact_cmd b 4).trans e

/-- `avg` of some readings (R63, R108). -/
theorem transact_asmAvg {b : Block} (hn : b.accn ≠ 0#16) : b.transact asmAvg = (b.divide, ⟨.ok, 0⟩) :=
  (transact_cmd b 5).trans (if_neg hn)

/-- `avg` of no readings (R63, R109). -/
theorem transact_asmAvg_empty {b : Block} (hn : b.accn = 0#16) :
    b.transact asmAvg = (b.record .div0, ⟨.div0, 0⟩) :=
  (transact_cmd b 5).trans (if_pos hn)

/-! A run of transactions to its end. -/

/-- The block `b` answers the transactions one after another with these responses and is `b'` after them (R12, R49). -/
inductive Block.Runs : Block → List TxnWord → List Response → Block → Prop
  | nil (b : Block) : b.Runs [] [] b
  | cons {b b' b'' : Block} {tw : TxnWord} {r : Response} {tws : List TxnWord} {rs : List Response}
      (first : b.transact tw = (b', r)) (rest : b'.Runs tws rs b'') : b.Runs (tw :: tws) (r :: rs) b''

theorem Block.Runs.append {b b' b'' : Block} {tws tws' : List TxnWord} {rs rs' : List Response}
    (h : b.Runs tws rs b') (h' : b'.Runs tws' rs' b'') : b.Runs (tws ++ tws') (rs ++ rs') b'' := by
  induction h with
  | nil b => exact h'
  | cons first _ ih => exact .cons first (ih h')

/-- The machine runs what is pending as the transaction function says, one step for each. -/
theorem core_run_pending {b b' : Block} {tws : List TxnWord} {rs : List Response} (h : b.Runs tws rs b') :
    ∀ given : List Response,
      core.run tws.length ⟨b, tws.map .transaction, given⟩ = .next (⟨b', [], given ++ rs⟩ : State) := by
  induction h with
  | nil b => simp [core_run_zero]
  | @cons b b' b'' tw r tws rs first _ ih =>
    intro given
    have hstep := stepIsTheTransactionFunction ⟨b, (tw :: tws).map .transaction, given⟩ tw _ rfl
    rw [first] at hstep
    rw [List.length_cons, core_run_next _ hstep, ih, List.append_assoc]
    rfl

/-- Transactions presented while nothing is pending are run to the end. -/
theorem core_run_present {s : State} {b' : Block} {tws : List TxnWord} {rs : List Response} (hp : s.pending = [])
    (h : s.block.Runs tws rs b') :
    core.run tws.length (s.present (tws.map .transaction)) = .next (⟨b', [], s.responses ++ rs⟩ : State) := by
  rw [State.present, hp]
  exact core_run_pending h s.responses

/-! A run of any length that presents writes to input registers only. -/

/-- Each event is a `wr` to one of these input registers. -/
def WritesOnly (rs : List InputReg) (events : List HostEvent) : Prop :=
  ∀ e ∈ events, ∃ r ∈ rs, ∃ v : BitVec 16, e = .transaction (asmWr r.name v.toNat)

/-- What every write to these registers keeps is kept for as long as such writes are run. -/
theorem core_run_writesOnly {rs : List InputReg} {P : Block → Prop}
    (hstore : ∀ r ∈ rs, ∀ (v : BitVec 16) (b : Block), P b → P (b.storeInput r v)) (k : Nat) :
    ∀ s : State, WritesOnly rs s.pending → P s.block → ∃ t : State, core.run k s = .next t ∧ P t.block := by
  induction k with
  | zero => exact fun s _ hb => ⟨s, rfl, hb⟩
  | succ k ih =>
    intro s hw hb
    cases hp : s.pending with
    | nil =>
      rw [core_run_next k (step_idle s hp)]
      exact ih s hw hb
    | cons e rest =>
      rw [hp] at hw
      obtain ⟨r, hr, v, rfl⟩ := hw e List.mem_cons_self
      rw [core_run_next k (stepIsTheTransactionFunction s _ rest hp), transact_asmWr]
      exact ih _ (fun e he => hw e (List.mem_cons_of_mem _ he)) (hstore r hr v s.block hb)

/-- The writes are run, and nothing else happens, in a machine where nothing was pending. -/
theorem core_run_present_writesOnly {rs : List InputReg} {P : Block → Prop}
    (hstore : ∀ r ∈ rs, ∀ (v : BitVec 16) (b : Block), P b → P (b.storeInput r v)) (k : Nat) {s : State}
    {events : List HostEvent} (hp : s.pending = []) (hw : WritesOnly rs events) (hb : P s.block) :
    ∃ t : State, core.run k (s.present events) = .next t ∧ P t.block :=
  core_run_writesOnly hstore k (s.present events) (by rwa [present_pending, hp]) hb

/-- `comp` is a write to `CMD`, which is no input register (R59, R63). -/
theorem WritesOnly.not_mem_asmComp {rs : List InputReg} {events : List HostEvent} (h : WritesOnly rs events) :
    HostEvent.transaction asmComp ∉ events := by
  intro hmem
  obtain ⟨r, -, v, e⟩ := h _ hmem
  obtain ⟨-, haddr, -⟩ := txnWord_inj.1 (HostEvent.transaction.inj e)
  cases r <;> exact absurd haddr (by decide)

/-! Sequences that stop at an exchange (R120, R121, R127). -/

/-- However its exchanges stop it, the sequence presents only `wr`s to these input registers. -/
def StopsAfterWrites (rs : List InputReg) (actions : List HostAction) : Prop :=
  ∀ xs : List Exchange, (runActions actions xs).ended ≠ .done → WritesOnly rs (runActions actions xs).events

/-- An exchange delivers its word, or the sequence presents nothing from there on (R120, R127). -/
theorem fetch_delivers_or_stops (b0 b1 : BitVec 8) (dest : RegName) (actions : List HostAction) (xs : List Exchange) :
    (∃ v ys, xs = .word v :: ys) ∨ (runActions (.fetch b0 b1 dest :: actions) xs).events = [] := by
  cases xs with
  | nil => exact .inr rfl
  | cons x ys =>
    cases x with
    | word v => exact .inl ⟨v, ys, rfl⟩
    | writeError => exact .inr rfl
    | readError => exact .inr rfl
    | never => exact .inr rfl

/-- A sequence that begins with an exchange for one of the registers, and goes on as such a sequence. -/
theorem stopsAfterWrites_fetch {rs : List InputReg} {actions : List HostAction} {b0 b1 : BitVec 8} {r : InputReg}
    (hr : r ∈ rs) (h : StopsAfterWrites rs actions) : StopsAfterWrites rs (.fetch b0 b1 r.name :: actions) := by
  intro xs hstop
  obtain ⟨v, ys, rfl⟩ | hnone := fetch_delivers_or_stops b0 b1 r.name actions xs
  · exact List.forall_mem_cons.2 ⟨⟨r, hr, v, rfl⟩, h ys hstop⟩
  · exact hnone ▸ List.forall_mem_nil _

/-- The register of the last exchange is not written where the sequence stops. -/
theorem stopsAfterWrites_lastFetch {rs : List InputReg} {actions : List HostAction} {b0 b1 : BitVec 8} {dest : RegName}
    (h : ∀ xs, (runActions actions xs).ended = .done) : StopsAfterWrites rs (.fetch b0 b1 dest :: actions) := by
  intro xs hstop
  obtain ⟨v, ys, rfl⟩ | hnone := fetch_delivers_or_stops b0 b1 dest actions xs
  · exact absurd (h ys) hstop
  · exact hnone ▸ List.forall_mem_nil _

/-- INIT that stops has written some of the first three words (R120). -/
theorem stopsAfterWrites_init : StopsAfterWrites [.w1, .w2, .w3] initActions :=
  stopsAfterWrites_fetch (r := .w1) (by decide) <| stopsAfterWrites_fetch (r := .w2) (by decide) <|
    stopsAfterWrites_fetch (r := .w3) (by decide) <| stopsAfterWrites_lastFetch fun _ => rfl

/-- READ_ONCE that stops has written the temperature word or nothing (R121). -/
theorem stopsAfterWrites_readOnce : StopsAfterWrites [.d2] readOnceActions :=
  stopsAfterWrites_fetch (r := .d2) (by decide) <| stopsAfterWrites_lastFetch fun _ => rfl

end Sys2Proof.Machine
end

section
/-! INIT and READ_ONCE (R120, R121, R125, R127). -/

namespace Sys2Proof.Machine

/-! INIT. -/

/-- The block with its four calibration words written. -/
def Block.storeWords (b : Block) (v1 v2 v3 v4 : BitVec 16) : Block :=
  (((b.storeInput .w1 v1).storeInput .w2 v2).storeInput .w3 v3).storeInput .w4 v4

/-- `ldcal` makes an Uninitialized block Ready with these words (R63, R120). -/
theorem runs_asmLdcal {b : Block} (hc : b.calv = false) (v1 v2 v3 v4 : BitVec 16) :
    b.Runs (asmLdcal v1.toNat v2.toNat v3.toNat v4.toNat) (List.replicate 5 ⟨.ok, 0⟩)
      (b.storeWords v1 v2 v3 v4).loadCoefficients :=
  .cons (transact_asmWr _ .w1 v1) <| .cons (transact_asmWr _ .w2 v2) <| .cons (transact_asmWr _ .w3 v3) <|
    .cons (transact_asmWr _ .w4 v4) <| .cons (transact_asmCal hc rfl) <| .nil _

/-- INIT that stops presents only writes of calibration words; with the set-up failed it presents nothing (R120). -/
theorem writesOnly_of_init_stopped {setupOk : Bool} {xs : List Exchange}
    (hstop : (initSequence setupOk xs).ended ≠ .done) :
    WritesOnly [.w1, .w2, .w3] (initSequence setupOk xs).events := by
  cases setupOk with
  | true => exact stopsAfterWrites_init xs hstop
  | false => exact List.forall_mem_nil _

/-- Settles O56: INIT with four words is `ldcal`; INIT that stops only stores words, and storing keeps CALV. -/
theorem initMakesReadyOrLeavesUninitialized : Obligations.InitMakesReadyOrLeavesUninitialized := by
  refine ⟨fun s v1 v2 v3 v4 hp hc => ?_, fun s ok xs k hp hc hstop => ?_⟩
  · exact ⟨_, core_run_present hp (runs_asmLdcal hc v1 v2 v3 v4), rfl, rfl, rfl, rfl, rfl, rfl⟩
  · refine core_run_present_writesOnly (P := fun b => b.calv = false) ?_ k hp (writesOnly_of_init_stopped hstop) hc
    intro r _ v b hb
    obtain ⟨⟨-, -, -, -, -, -, hcalv⟩, -⟩ := storeInput_frame b r v
    rw [hcalv, hb]

/-! READ_ONCE. -/

/-- The block after READ_ONCE steps 1 to 3: the sample written, temperature word first, and compensated (R121). -/
def Block.sampled (b : Block) (x : BitVec 16 × BitVec 16) : Block :=
  ((b.storeInput .d2 x.1).storeInput .d1 x.2).compensate

/-- The words of the sample in place of the block's own, for the values COMP gives (R85 to R93). -/
def Block.withSample (b : Block) (x : BitVec 16 × BitVec 16) : Block := { b with d1 := x.2, d2 := x.1 }

/-- `sample` on a Ready block writes both words and compensates (R63, R121). -/
theorem runs_asmSample {b : Block} (hc : b.calv = true) (x : BitVec 16 × BitVec 16) :
    b.Runs (asmSample x.2.toNat x.1.toNat) (List.replicate 3 ⟨.ok, 0⟩) (b.sampled x) :=
  .cons (transact_asmWr _ .d2 x.1) <| .cons (transact_asmWr _ .d1 x.2) <| .cons (transact_asmComp hc rfl) <| .nil _

/-- The reading depends on the sample and the calibration alone (R98). -/
theorem sampled_reading {b₀ b : Block} (h : b₀.SameCalibration b) (x : BitVec 16 × BitVec 16) :
    ((b.sampled x).p.toNat : Int) = (b₀.withSample x).valPx % 65536 ∧
      (b.sampled x).t.toInt = (b₀.withSample x).valT := by
  obtain ⟨h1, h2, h3, h4, h5, h6, -⟩ := h
  have hsame : (b₀.withSample x).compensate.SameResult (b.sampled x) :=
    sameResult_compensate rfl rfl h1 h2 h3 h4 h5 h6
  obtain ⟨-, -, -, -, -, hp, ht, -, -⟩ := hsame
  rw [hp, ht]
  exact ⟨compensate_p_toNat _, compensate_t_toInt _⟩

/-- Settles O57: READ_ONCE is `sample` followed by two reads, of the reading `sampled` holds. -/
theorem readOnceAnswersTheReading : Obligations.ReadOnceAnswersTheReading := by
  rintro s tw pw _ hp hc rfl
  have hrun := (runs_asmSample hc (tw, pw)).append <|
    .cons (transact_asmRd _ .p) <| .cons (transact_asmRd _ .t) <| .nil _
  obtain ⟨hpx, ht⟩ := sampled_reading (b₀ := s.block) ⟨rfl, rfl, rfl, rfl, rfl, rfl, rfl⟩ (tw, pw)
  refine ⟨_, _, _, core_run_present hp hrun, rfl, rfl, ?_, ?_⟩
  · exact (congrArg Nat.cast (zext_toNat _ (by decide))).trans hpx
  · exact (sext_toInt _ (by decide)).trans ht

/-- Settles O60: READ_ONCE that stops only stores the temperature word. -/
theorem readOnceStoppedKeepsTheReading : Obligations.ReadOnceStoppedKeepsTheReading := by
  intro s xs k hp hstop
  have hw := stopsAfterWrites_readOnce xs hstop
  refine ⟨hw.not_mem_asmComp,
    core_run_present_writesOnly (P := fun b => b = { s.block with d2 := b.d2, d2v := b.d2v }) ?_ k hp hw rfl⟩
  intro r hr v b hb
  obtain rfl := List.mem_singleton.1 hr
  rw [storeInput_d2, hb]

end Sys2Proof.Machine
end

section
/-! READ_AVG (R105 to R109, R122, R123). -/

namespace Sys2Proof.Machine

/-! The loop. -/

/-- `b` holds the sums of the readings of these samples with the calibration of `b₀`: the loop of READ_AVG (R122). -/
structure Block.SumsOf (b₀ : Block) (samples : List (BitVec 16 × BitVec 16)) (b : Block) : Prop where
  calibration : b₀.SameCalibration b
  ranges : b.SumRanges
  count : b.accn.toNat = samples.length
  pressures : b.accp.toNat = (samples.map fun x => ((b₀.withSample x).valPx % 65536).toNat).sum
  temperatures : b.acct.toInt = (samples.map fun x => (b₀.withSample x).valT).sum

/-- ACLR leaves the sums of no readings (R105). -/
theorem sumsOf_nil_clearSums (b : Block) : b.SumsOf [] b.clearSums where
  calibration := ⟨rfl, rfl, rfl, rfl, rfl, rfl, rfl⟩
  ranges := by simp [Block.SumRanges]
  count := rfl
  pressures := rfl
  temperatures := rfl

/-- A count below 65535 is not the largest count. -/
theorem accn_ne_max {b : Block} (h : b.accn.toNat < 65535) : b.accn ≠ 65535#16 := by bv_omega

/-- One more sample and ACC add its reading to the sums (R106, R107). -/
theorem sumsOf_concat_accumulate {b₀ b : Block} {samples : List (BitVec 16 × BitVec 16)} (h : b₀.SumsOf samples b)
    (hn : samples.length < 65535) (x : BitVec 16 × BitVec 16) :
    b₀.SumsOf (samples ++ [x]) (b.sampled x).accumulate := by
  have hmax : (b.sampled x).accn ≠ 65535#16 := accn_ne_max (h.count ▸ hn)
  have hranges : (b.sampled x).SumRanges := h.ranges
  have ht : -6095 ≤ (b.sampled x).t.toInt ∧ (b.sampled x).t.toInt ≤ 3757 := compensate_t_range _
  obtain ⟨haccp, hacct⟩ := accumulate_sums hranges ht hmax
  obtain ⟨hpx, htemp⟩ := sampled_reading h.calibration x
  refine ⟨h.calibration, accumulate_sumRanges hranges ht hmax, ?_, ?_, ?_⟩
  · rw [accumulate_accn_toNat hmax, List.length_append, ← h.count]
    rfl
  · rw [haccp, List.map_append, List.sum_append, ← h.pressures, List.map_singleton, List.sum_singleton, ← hpx]
    rfl
  · rw [hacct, List.map_append, List.sum_append, ← h.temperatures, List.map_singleton, List.sum_singleton, ← htemp]
    rfl

/-- One round of the loop: `sample`, then `acc` (R122). -/
def roundWords (x : BitVec 16 × BitVec 16) : List TxnWord := asmSample x.2.toNat x.1.toNat ++ [asmAcc]

theorem runs_roundWords {b : Block} (hc : b.calv = true) (hn : b.accn.toNat < 65535) (x : BitVec 16 × BitVec 16) :
    b.Runs (roundWords x) (List.replicate 4 ⟨.ok, 0⟩) (b.sampled x).accumulate :=
  (runs_asmSample hc x).append <| .cons (transact_asmAcc (compensate_resv _) (accn_ne_max hn)) <| .nil _

/-- The loop sums the readings of its samples after those summed before it (R122). -/
theorem runs_loop {b₀ : Block} (hc : b₀.calv = true) (samples : List (BitVec 16 × BitVec 16)) :
    ∀ (before : List (BitVec 16 × BitVec 16)) (b : Block), b₀.SumsOf before b →
      before.length + samples.length ≤ 65535 →
      ∃ b', b.Runs (samples.flatMap roundWords) (List.replicate (4 * samples.length) ⟨.ok, 0⟩) b' ∧
        b₀.SumsOf (before ++ samples) b' := by
  induction samples with
  | nil => exact fun before b h _ => ⟨b, .nil b, by rwa [List.append_nil]⟩
  | cons x samples ih =>
    intro before b h hlen
    rw [List.length_cons] at hlen
    have hn : before.length < 65535 := by omega
    have hready : b.calv = true := by
      obtain ⟨-, -, -, -, -, -, hcalv⟩ := h.calibration
      rw [hcalv, hc]
    obtain ⟨b', hrun, hsums⟩ := ih (before ++ [x]) _ (sumsOf_concat_accumulate h hn x)
      (by rw [List.length_append, List.length_singleton]; omega)
    refine ⟨b', ?_, by rwa [List.append_assoc] at hsums⟩
    rw [List.length_cons, Nat.mul_succ, Nat.add_comm, List.replicate_add]
    exact (runs_roundWords hready (h.count ▸ hn) x).append hrun

/-! The whole sequence. -/

/-- The exchanges that deliver a list of samples. -/
def deliver (samples : List (BitVec 16 × BitVec 16)) : List Exchange :=
  samples.flatMap fun x => [.word x.1, .word x.2]

/-- With every exchange delivering its word the loop presents one round for each sample (R122). -/
theorem events_accumulateActions (after : List HostAction) (samples : List (BitVec 16 × BitVec 16)) :
    (runActions (accumulateActions samples.length ++ after) (deliver samples)).events =
      (samples.flatMap roundWords).map .transaction ++ (runActions after []).events := by
  induction samples with
  | nil => rfl
  | cons x samples ih =>
    rw [List.flatMap_cons, List.map_append, List.append_assoc, ← ih]
    rfl

/-- The transactions of READ_AVG on these samples (R122). -/
def readAvgWords (samples : List (BitVec 16 × BitVec 16)) : List TxnWord :=
  asmAclr :: (samples.flatMap roundWords ++ [asmAvg, asmRd .pavg, asmRd .tavg])

theorem events_readAvgActions (samples : List (BitVec 16 × BitVec 16)) :
    (runActions (readAvgActions samples.length) (deliver samples)).events =
      (readAvgWords samples).map .transaction := by
  rw [readAvgWords, List.map_cons, List.map_append]
  exact congrArg (HostEvent.transaction asmAclr :: ·) (events_accumulateActions _ samples)

theorem readAvgWords_length (samples : List (BitVec 16 × BitVec 16)) :
    (readAvgWords samples).length = 4 * samples.length + 4 := by
  have hloop : (samples.flatMap roundWords).length = 4 * samples.length := by
    induction samples with
    | nil => rfl
    | cons x samples ih =>
      rw [List.flatMap_cons, List.length_append, ih, List.length_cons, Nat.mul_succ, Nat.add_comm]
      rfl
  rw [readAvgWords, List.length_cons, List.length_append, hloop]
  rfl

/-- What the loop leaves is divided, and the means are read (R122). -/
theorem runs_readAvgWords {b₀ b : Block} {samples : List (BitVec 16 × BitVec 16)}
    (hloop : b₀.clearSums.Runs (samples.flatMap roundWords) (List.replicate (4 * samples.length) ⟨.ok, 0⟩) b)
    (hn : b.accn ≠ 0#16) :
    b₀.Runs (readAvgWords samples) (List.replicate (4 * samples.length + 2) ⟨.ok, 0⟩ ++
      [⟨.ok, zext b.divide.pavg⟩, ⟨.ok, sext b.divide.tavg⟩]) b.divide := by
  rw [List.replicate_succ, List.replicate_succ', List.cons_append, List.append_assoc]
  exact .cons (transact_asmAclr _) <| hloop.append <| .cons (transact_asmAvg hn) <|
    .cons (transact_asmRd _ .pavg) <| .cons (transact_asmRd _ .tavg) <| .nil _

/-- A run of the words of READ_AVG is the machine's run of the sequence. -/
theorem core_run_readAvg {s : State} {samples : List (BitVec 16 × BitVec 16)} {rs : List Response} {b' : Block}
    (hp : s.pending = []) (h : s.block.Runs (readAvgWords samples) rs b') :
    core.run (4 * samples.length + 4)
      (s.present (runActions (readAvgActions samples.length) (deliver samples)).events) =
        .next (⟨b', [], s.responses ++ rs⟩ : State) := by
  rw [events_readAvgActions, ← readAvgWords_length]
  exact core_run_present hp h

/-- Settles O58: the loop leaves the sums of the samples' readings, which AVG divides by their number. -/
theorem readAvgAnswersTheMeans : Obligations.ReadAvgAnswersTheMeans := by
  intro s samples hp hc hne hlen
  obtain ⟨b, hloop, hsums⟩ := runs_loop hc samples [] s.block.clearSums (sumsOf_nil_clearSums s.block) (by simpa)
  rw [List.nil_append] at hsums
  have hcount : b.accn ≠ 0#16 := by
    have : 0 < samples.length := List.length_pos_iff.2 hne
    have := hsums.count
    bv_omega
  refine ⟨_, _, _, _, core_run_readAvg hp (runs_readAvgWords hloop hcount), rfl, (List.append_assoc ..).symm,
    fun _ => List.eq_of_mem_replicate, ?_, ?_⟩
  · rw [zext_toNat _ (by decide), divide_pavg_toNat hsums.ranges, hsums.pressures, hsums.count]
    rfl
  · rw [sext_toInt _ (by decide), divide_tavg_toInt hsums.ranges hcount, hsums.temperatures, hsums.count]
    rfl

/-- Settles O59: ACLR leaves no readings, so AVG raises E_DIV0, and the two reads find the means as they were. -/
theorem readAvgOfNoneIsRefused : Obligations.ReadAvgOfNoneIsRefused := by
  intro s hp
  have hrun : s.block.Runs (readAvgWords []) _ _ := .cons (transact_asmAclr _) <|
    .cons (transact_asmAvg_empty (clearSums_accn _)) <| .cons (transact_asmRd _ .pavg) <|
    .cons (transact_asmRd _ .tavg) <| .nil _
  exact ⟨_, _, _, core_run_readAvg hp hrun, rfl, rfl, rfl, rfl⟩

end Sys2Proof.Machine
end

section
/-! Refusals and ECODE (R129 to R133): what a refused transaction leaves, which code ECODE takes, and that nothing but
`RD.STATUS` depends on ECODE. -/

namespace Sys2Proof.Machine

/-- `b'` is `b` up to ECODE. -/
def Block.SameButEcode (b b' : Block) : Prop := b' = { b with ecode := b'.ecode }

/-- Recording a status writes ECODE alone (R133). -/
theorem sameButEcode_record (b : Block) (c : Status) : b.SameButEcode (b.record c) := rfl

/-- A transaction is refused, by `raise` with its response's status, or it answers OK and leaves ECODE. -/
theorem effect_refused_or_ok (i : Instr) (b : Block) :
    ((effect i b).2.st ≠ .ok ∧ effect i b = b.raise (effect i b).2.st) ∨
    ((effect i b).2.st = .ok ∧ (effect i b).1.ecode = b.ecode) := by
  rcases effect_cases i b with ⟨v, e⟩ | ⟨c, hc, e⟩ | ⟨r, d, -, e⟩ | ⟨-, -, -, e⟩ | ⟨-, -, -, e⟩ | ⟨-, e⟩ |
      ⟨-, -, -, e⟩ | ⟨-, -, e⟩
  case inr.inl => exact .inl (by rw [e]; exact ⟨hc, rfl⟩)
  case inr.inr.inl => exact .inr (by rw [e]; cases r <;> exact ⟨rfl, rfl⟩)
  all_goals exact .inr (by simp [e])

/-- The ECODE a transaction leaves, by the status it answers (R132). -/
theorem effect_ecode (i : Instr) (b : Block) : (effect i b).1.ecode =
    if (effect i b).2.st ≠ .ok ∧ b.ecode = 0#4 then (effect i b).2.st.code else b.ecode := by
  rcases effect_refused_or_ok i b with ⟨-, e⟩ | ⟨hok, e⟩
  · rw [e]; rfl
  · rw [e, if_neg fun h => h.1 hok]

/-- The one response a transaction adds is that of its effect (R54). -/
theorem response_of_exec {i : Instr} {s t : State} {r : Response} (h : exec i s = .next t)
    (hr : t.responses = s.responses ++ [r]) : r = (effect i s.block).2 := by
  rw [exec_eq_answer, answer_eq_next_iff] at h
  obtain ⟨-, -, ht⟩ := h
  simpa using hr.symm.trans ht

/-- Settles O11: a refusal is `raise`, which only records. -/
theorem refusalChangesNothingButEcode : Obligations.RefusalChangesNothingButEcode := by
  intro i s t r h hr hst
  rw [response_of_exec h hr] at hst
  obtain ⟨-, e⟩ := (effect_refused_or_ok i s.block).resolve_right fun hok => hst hok.1
  rw [block_of_exec h, e]
  exact sameButEcode_record s.block _

/-! Transactions of two blocks that differ in ECODE only. -/

/-- Two ends of a transaction with the same response and the same block up to ECODE. -/
def SameEndButEcode (x y : Block × Response) : Prop := y.2 = x.2 ∧ x.1.SameButEcode y.1

theorem SameEndButEcode.ite {p : Prop} [Decidable p] {x x' y y' : Block × Response} (h : SameEndButEcode x y)
    (h' : SameEndButEcode x' y') : SameEndButEcode (if p then x else x') (if p then y else y') := by
  split_ifs
  · exact h
  · exact h'

theorem sameEndButEcode_raise (b : Block) (e : BitVec 4) (c : Status) :
    SameEndButEcode (b.raise c) (Block.raise { b with ecode := e } c) := ⟨rfl, rfl⟩

theorem sameEndButEcode_refuseWrite (b : Block) (e : BitVec 4) (a : Addr) :
    SameEndButEcode (b.refuseWrite a) (Block.refuseWrite { b with ecode := e } a) :=
  .ite (sameEndButEcode_raise b e .ro) (sameEndButEcode_raise b e .badAddr)

/-- Every transaction but `RD.STATUS` ends the same whatever ECODE holds (R132). -/
theorem effect_sameEndButEcode {i : Instr} (h : ∀ d, i ≠ .rdStatus d) (b : Block) (e : BitVec 4) :
    SameEndButEcode (effect i b) (effect i { b with ecode := e }) := by
  have raise := sameEndButEcode_raise b e
  cases i
  case rdStatus d => exact absurd rfl (h d)
  case cal => exact .ite (raise .recal) (.ite (raise .noWords) ⟨rfl, rfl⟩)
  case comp => exact .ite (raise .noCal) (.ite (raise .noSample) ⟨rfl, rfl⟩)
  case acc => exact .ite (raise .noRes) (.ite (raise .accFull) ⟨rfl, rfl⟩)
  case avg => exact .ite (raise .div0) ⟨rfl, rfl⟩
  case wrRo01 a _ | wrRo08To0F a _ | wrRo10To17 a _ | wrRo18To19 a _ | wrRsvd1ATo1B a _ | wrRsvd1CTo1F a _ |
      wrRsvd20To3F a _ | wrRsvd40To7F a _ => exact sameEndButEcode_refuseWrite b e a
  all_goals exact ⟨rfl, rfl⟩

/-- Settles O12: the recorded code by `effect_ecode`, the independence by `effect_sameEndButEcode`; a step that is no
reset event is an effect, and an effect keeps a recorded code. -/
theorem firstRefusalIsRecorded : Obligations.FirstRefusalIsRecorded := by
  refine ⟨fun i s t r h hr => ?_, fun i s e hi => ?_, fun s t h hrecorded hchanged => ?_⟩
  · rw [response_of_exec h hr, block_of_exec h]
    exact effect_ecode i s.block
  · obtain ⟨hresponse, hblock⟩ := effect_sameEndButEcode hi s.block e
    exact ⟨_, _, exec_eq_answer i s, exec_eq_answer i _, congrArg (s.responses ++ [·]) hresponse, hblock⟩
  · rcases step_block_cases h with ⟨i, e⟩ | ⟨rest, hp, -⟩
    · refine absurd ?_ hchanged
      rw [e, effect_ecode, if_neg fun hzero => hrecorded hzero.2]
    · exact ⟨rest, hp⟩

end Sys2Proof.Machine
end

section
/-! The reset event and the reset state (R147, R148). -/

namespace Sys2Proof.Machine

/-- The step that takes the reset event (R147). -/
theorem step_of_reset {s : State} {rest : List HostEvent} (h : s.pending = .reset :: rest) :
    step s = .next (State.applyReset { s with pending := rest }) := by
  simp [step, State.fetch, h]

/-- At reset every register and view reads 0 (R148). -/
theorem reset_readRegister (r : RegName) : Block.reset.readRegister r = 0#32 := by cases r <;> rfl

/-- At reset the whole register space reads 0, as its reserved addresses always do (R41, R148). -/
theorem reset_readWord (a : Addr) : Block.reset.readWord a = 0#32 := by
  rcases addr_named_or_reserved a with ⟨r, rfl⟩ | h
  · rw [readWord_addr, reset_readRegister]
  · exact readWord_reserved _ a h

/-- Settles O7: the step leaves `Block.reset`, whose fields are 0 one by one and whose `STATUS` reads 0 as every address
does. -/
theorem resetEventClearsTheBlock : Obligations.ResetEventClearsTheBlock := by
  intro s rest h
  refine ⟨_, step_of_reset h, rfl, rfl, ?_⟩
  rw [applyReset_block, reset_readWord]
  decide

/-- Settles O8: the reads by `reset_readWord`; each command meets the first of its conditions that fails while every flag
and the count are 0. -/
theorem resetReadsZeroEverywhere : Obligations.ResetReadsZeroEverywhere :=
  ⟨reset_readWord, exec_of_raise (by decide) (effect_comp_of_not_calv rfl),
    exec_of_raise (by decide) (effect_cal_of_wordMissing rfl rfl),
    exec_of_raise (by decide) (effect_acc_of_not_resv rfl), exec_of_raise (by decide) (effect_avg_of_empty rfl)⟩

end Sys2Proof.Machine
end
